-- ==== Sys2Proof/Word.lean ====
section
/-! DEFINITION. The values of the pipower CORE: bytes, millisecond counts, pins.
All quantities are unsigned (00_scope.md R11, R12). A boolean is one bit, true = 1 (R12). -/

namespace Sys2Proof

/-- A byte of the model's script. -/
abbrev Byte := BitVec 8

/-- A debouncer history of `W_HIST` bits, by default 8 (00_scope.md R9, 10_state.md R21). -/
abbrev History (wHist : Nat := 8) := BitVec wHist

/-- `TIME` values: unsigned millisecond counts of `W_TIME` bits, by default 32 (30_encoding.md R76, 00_scope.md R9;
the width is the spec's D1). -/
abbrev Time (wTime : Nat := 32) := BitVec wTime

/-- The five signals of the pin space (20_memory.md R51). -/
inductive Pin where
  /-- input, the momentary power button -/
  | power
  /-- input, upstream-power presence -/
  | usb
  /-- output, boost-converter enable -/
  | en
  /-- input, driven low by the booted host -/
  | boot
  /-- output, request to the host to shut down -/
  | shutdown
deriving DecidableEq, Repr

end Sys2Proof
end

