-- ==== Sys2Proof/Config.lean ====
section
/-! DEFINITION. What an implementation fixes: the parameters of 00_scope.md R9, and the environment's free stimulus.
The widths `W_HIST` and `W_TIME` are parameters of the types themselves: every register, operand and operation of the
machine is written for any two widths, and a type named without them has the default widths 8 and 32. -/

namespace Sys2Proof

/-- FREE VALUE. `CLOCK_RUNS_IN_HALT`, whether `now` advances while halted: OPEN (00_scope.md R9, 92_eei_decisions.md
D20, 93_implementation_defined.md U3; notes/assumptions/12.md). -/
opaque Config.clockRunsInHalt : Bool

/-- The parameters of 00_scope.md R9 for a history of `W_HIST` bits and a time base of `W_TIME` bits. The operations
of the machine take them as an argument, so that a statement can hold for every value of them
(92_eei_decisions.md D1, D31). -/
structure Params (wHist wTime : Nat) where
  /-- `DEB_MASK`, the history bits that take part in a match -/
  debMask : History wHist := BitVec.ofNat wHist 0b11000111
  /-- `DEB_PRESSED`, the masked value that means pressed -/
  debPressed : History wHist := BitVec.ofNat wHist 0b11000000
  /-- `DEB_RELEASED`, the masked value that means released -/
  debReleased : History wHist := BitVec.ofNat wHist 0b00000111
  /-- `DEB_DOWN`, the settled-down history -/
  debDown : History wHist := BitVec.ofNat wHist 0b00000000
  /-- `DEB_UP`, the settled-up history -/
  debUp : History wHist := BitVec.ofNat wHist 0b11111111
  /-- `HIST_RESET`, the history after reset (the spec's D2) -/
  histReset : History wHist := BitVec.ofNat wHist 0xFF
  /-- `T_LONG_PRESS`, ms -/
  tLongPress : Time wTime := BitVec.ofNat wTime 2000
  /-- `T_POWERWAIT`, ms -/
  tPowerwait : Time wTime := BitVec.ofNat wTime 1000
  /-- `T_BOOTWAIT`, ms -/
  tBootwait : Time wTime := BitVec.ofNat wTime 30000
  /-- `T_SHUTDOWN`, ms -/
  tShutdown : Time wTime := BitVec.ofNat wTime 30000
  /-- `T_POWEROFF`, ms -/
  tPoweroff : Time wTime := BitVec.ofNat wTime 30000
  /-- `T_IDLE`, ms -/
  tIdle : Time wTime := BitVec.ofNat wTime 5000
  /-- `SAMPLE_PERIOD`, ms, used by the environment only -/
  samplePeriod : Time wTime := BitVec.ofNat wTime 10
  /-- `EN_ACTIVE`, the level that asserts EN (the spec's D6) -/
  enActive : Bool := true
  /-- `SD_ACTIVE`, the level that asserts SHUTDOWN -/
  sdActive : Bool := true
  /-- `BOOT_ACTIVE`, the BOOT level that means asserted -/
  bootActive : Bool := false
  /-- `HALT_ENABLE`, whether IDLE0 requests the low-power wait (the spec's D19) -/
  haltEnable : Bool := true
  /-- `WAKE_PINS`, the pins whose edges end the wait (the spec's D19) -/
  wakePins : List Pin := [.power, .usb]
  /-- `CLOCK_RUNS_IN_HALT`, used by the environment only; it has no default (the spec's D20) -/
  clockRunsInHalt : Bool := Config.clockRunsInHalt
  /-- `PHASE_CODE`, the codes of the 15 phases in the order in which 30_encoding.md R71 lists them (the spec's D7) -/
  phaseCodes : List (BitVec 4) :=
    [0b0000#4, 0b0001#4, 0b0010#4, 0b0011#4, 0b0100#4, 0b0101#4, 0b0110#4, 0b0111#4,
     0b1000#4, 0b1001#4, 0b1010#4, 0b1011#4, 0b1100#4, 0b1101#4, 0b1110#4]
deriving DecidableEq, Repr

/-- The machine's parameters: every one at the default of 00_scope.md R9, at the default widths unless others are
given. -/
def Config.params (wHist : Nat := 8) (wTime : Nat := 32) : Params wHist wTime := {}

/-- FREE VALUE. The stimulus word (30_encoding.md R82) that the environment presents when no script is pending;
applied to the counter `State.issued`. Nothing is known of it (93_implementation_defined.md U3, U8, U9, U10). -/
opaque Config.stimulus (wTime : Nat) : Nat → BitVec (wTime + 4)

/-- FREE VALUE. Whether the environment applies reset instead of a tick when no script is pending
(70_reset_and_hazards.md R250: reset is applied between ticks). -/
opaque Config.resetInput : Nat → Bool

end Sys2Proof
end

