-- ==== Sys2Proof/Syntax.lean ====
section
/-! DEFINITION. The instruction set of the pipower CORE as 00_scope.md R15 reads the word: the 25 operations of
30_encoding.md R74 with their operands, the 15 phases of R71 and the reserved code R78, the four history decodes
of R73. One constructor per row of opcode_table.json. And the stimulus scripts of R82. -/

namespace Sys2Proof

/-- The 15 phases of the sequencer (10_state.md R26). The reserved code 15 is unrepresentable (30_encoding.md R78). -/
inductive Phase where
  | start | powerwait0 | powerwait1 | poweron | bootwait0 | bootwait1 | boot | shutdown0 | shutdown1
  | poweroff0 | poweroff1 | poweroff2 | idle0 | idle1 | idle2
deriving DecidableEq, Repr

/-- `TickInputs` of 10_state.md R43; a pin level is one bit, true = high (30_encoding.md R75). -/
structure TickInputs (wTime : Nat) where
  /-- the Clock's millisecond count, latched for the tick (10_state.md R40) -/
  now : Time wTime
  /-- whether this tick samples the sensors (10_state.md R41) -/
  sampleStb : Bool
  /-- level of the POWER pin (10_state.md R42) -/
  pinPower : Bool
  /-- level of the USB pin -/
  pinUsb : Bool
  /-- level of the BOOT pin -/
  pinBoot : Bool
deriving DecidableEq, Repr

/-- The three formats an instruction of this hardware can have (30_encoding.md R70). -/
inductive Format where
  /-- 6-bit operation identifier, followed in the model's script by its operand bytes -/
  | op6
  /-- 4-bit phase code of the `phase` register -/
  | phase4
  /-- 8-bit debouncer history -/
  | hist8
deriving DecidableEq, Repr

/-- The instructions: one constructor per row of opcode_table.json, operands as 30_encoding.md R74 lists them; a time
has `W_TIME` bits, and `Instr` without a width is the instruction set of the default width 32. -/
inductive Instr : (wTime : Nat := 32) → Type where
  -- the debouncer, 40_debouncer.md
  | debUpdate {wTime : Nat} (sample : Bool) : Instr wTime
  | debIsUp {wTime : Nat} : Instr wTime
  | debIsDown {wTime : Nat} : Instr wTime
  | debIsPressed {wTime : Nat} : Instr wTime
  | debIsReleased {wTime : Nat} : Instr wTime
  -- the level sensor, 41_level_sensor.md
  | lsUpdate {wTime : Nat} (sample : Bool) : Instr wTime
  | lsIsHigh {wTime : Nat} : Instr wTime
  | lsIsLow {wTime : Nat} : Instr wTime
  | lsWentHigh {wTime : Nat} : Instr wTime
  | lsWentLow {wTime : Nat} : Instr wTime
  -- the timer unit and the button-event logic, 42_timer_button.md
  | tmrRecord {wTime : Nat} (now : Time wTime) : Instr wTime
  | tmrElapsed {wTime : Nat} (now : Time wTime) : Instr wTime
  | tmrHeld {wTime : Nat} (now : Time wTime) : Instr wTime
  | btnEvents {wTime : Nat} (now : Time wTime) : Instr wTime
  -- the GPIO driver, 44_gpio.md
  | ioReadPower {wTime : Nat} : Instr wTime
  | ioReadUsb {wTime : Nat} : Instr wTime
  | ioReadBoot {wTime : Nat} : Instr wTime
  | ioEnAssert {wTime : Nat} : Instr wTime
  | ioEnDeassert {wTime : Nat} : Instr wTime
  | ioSdAssert {wTime : Nat} : Instr wTime
  | ioSdDeassert {wTime : Nat} : Instr wTime
  | ioHalt {wTime : Nat} : Instr wTime
  -- sequencer control, 43_sequencer.md and 70_reset_and_hazards.md
  | seqTick {wTime : Nat} (inputs : TickInputs wTime) : Instr wTime
  | seqOverride {wTime : Nat} (longPress : Bool) : Instr wTime
  | seqReset {wTime : Nat} : Instr wTime
  -- the phases, 43_sequencer.md
  | phStart {wTime : Nat} : Instr wTime
  | phPowerwait0 {wTime : Nat} : Instr wTime
  | phPowerwait1 {wTime : Nat} : Instr wTime
  | phPoweron {wTime : Nat} : Instr wTime
  | phBootwait0 {wTime : Nat} : Instr wTime
  | phBootwait1 {wTime : Nat} : Instr wTime
  | phBoot {wTime : Nat} : Instr wTime
  | phShutdown0 {wTime : Nat} : Instr wTime
  | phShutdown1 {wTime : Nat} : Instr wTime
  | phPoweroff0 {wTime : Nat} : Instr wTime
  | phPoweroff1 {wTime : Nat} : Instr wTime
  | phPoweroff2 {wTime : Nat} : Instr wTime
  | phIdle0 {wTime : Nat} : Instr wTime
  | phIdle1 {wTime : Nat} : Instr wTime
  | phIdle2 {wTime : Nat} : Instr wTime
  | phReserved {wTime : Nat} : Instr wTime
  -- the history decodes, 30_encoding.md R73; `mid` is the don't-care field [5:3] of R72
  | histPressed {wTime : Nat} (mid : BitVec 3) : Instr wTime
  | histReleased {wTime : Nat} (mid : BitVec 3) : Instr wTime
  | histDown {wTime : Nat} : Instr wTime
  | histUp {wTime : Nat} : Instr wTime
deriving DecidableEq, Repr

/-- A line of a stimulus script (30_encoding.md R82): one tick, a repeated tick, or reset. -/
inductive ScriptLine (wTime : Nat) where
  /-- `T now=.. stb=.. pw=.. usb=.. boot=..` -/
  | tick (inputs : TickInputs wTime)
  /-- `REPEAT n step=<ms>` around one tick line, which shows the first `now` -/
  | repeatTick (n : Nat) (step : Time wTime) (inputs : TickInputs wTime)
  /-- `RESET` -/
  | reset
deriving DecidableEq, Repr

end Sys2Proof
end

