-- ==== Sys2Proof/WellFormed.lean ====
section
/-! DEFINITION. Which instructions are legal, and which parameters satisfy the constraints of 00_scope.md R10. -/

namespace Sys2Proof

variable {wHist wTime : Nat}

/-- Every instruction of the table is legal but the reserved phase code (30_encoding.md R78). Operands need no
check: their types hold exactly the values the formats admit. -/
def Instr.wellFormed : Instr wTime → Bool
  | .debUpdate _ => true
  | .debIsUp => true
  | .debIsDown => true
  | .debIsPressed => true
  | .debIsReleased => true
  | .lsUpdate _ => true
  | .lsIsHigh => true
  | .lsIsLow => true
  | .lsWentHigh => true
  | .lsWentLow => true
  | .tmrRecord _ => true
  | .tmrElapsed _ => true
  | .tmrHeld _ => true
  | .btnEvents _ => true
  | .ioReadPower => true
  | .ioReadUsb => true
  | .ioReadBoot => true
  | .ioEnAssert => true
  | .ioEnDeassert => true
  | .ioSdAssert => true
  | .ioSdDeassert => true
  | .ioHalt => true
  | .seqTick _ => true
  | .seqOverride _ => true
  | .seqReset => true
  | .phStart => true
  | .phPowerwait0 => true
  | .phPowerwait1 => true
  | .phPoweron => true
  | .phBootwait0 => true
  | .phBootwait1 => true
  | .phBoot => true
  | .phShutdown0 => true
  | .phShutdown1 => true
  | .phPoweroff0 => true
  | .phPoweroff1 => true
  | .phPoweroff2 => true
  | .phIdle0 => true
  | .phIdle1 => true
  | .phIdle2 => true
  | .phReserved => false
  | .histPressed _ => true
  | .histReleased _ => true
  | .histDown => true
  | .histUp => true

/-- 00_scope.md R10: the patterns have no bit outside the mask. -/
def Params.patternsInMask (P : Params wHist wTime) : Bool :=
  P.debPressed &&& ~~~P.debMask == 0#wHist && P.debReleased &&& ~~~P.debMask == 0#wHist

/-- 00_scope.md R10: `DEB_PRESSED != DEB_RELEASED`. -/
def Params.patternsDiffer (P : Params wHist wTime) : Bool := P.debPressed != P.debReleased

/-- 00_scope.md R10: a settled history does not match, so an event cannot re-fire at once. -/
def Params.settledDoNotMatch (P : Params wHist wTime) : Bool :=
  P.debDown &&& P.debMask != P.debPressed && P.debUp &&& P.debMask != P.debReleased

/-- How many times the time base's range exceeds a threshold at least. R10 says "by a wide margin" and gives no
number; D1 of 92_eei_decisions.md says that a factor of two is not one.
DESIGN CHOICE (notes/assumptions/14.md), safe: no meaning reads it. -/
def Params.margin : Nat := 256

/-- 00_scope.md R10: `2^W_TIME` exceeds every threshold by a wide margin. -/
def Params.rangeIsWide (P : Params wHist wTime) : Bool :=
  [P.tLongPress, P.tPowerwait, P.tBootwait, P.tShutdown, P.tPoweroff, P.tIdle].all
    fun t => t.toNat * Params.margin ≤ 2 ^ wTime

/-- The phase codes tell the 15 phases apart, and leave a code over for the reserved one (30_encoding.md R70, R71, R78).
R10 does not list this. DEDUCED (notes/assumptions/1.md), safe: no meaning reads it. -/
def Params.codesTellPhasesApart (P : Params wHist wTime) : Bool :=
  P.phaseCodes.length == 15 && decide P.phaseCodes.Nodup

/-- The constraints of 00_scope.md R10. -/
def Params.valid (P : Params wHist wTime) : Bool :=
  P.patternsInMask && P.patternsDiffer && P.settledDoNotMatch && P.rangeIsWide

end Sys2Proof
end

