-- ==== Sys2Proof/Decode.lean ====
section
/-! DEFINITION. Decoding and encoding: the phase codes (30_encoding.md R71), the history decodes (R72, R73), the
operation identifiers (R74), the stimulus words and scripts (R82). No hardware register holds an OP6 word (R70):
its place in a byte, and the operand bytes that follow it, are the model's. DESIGN CHOICE (notes/assumptions/4.md).
A name that ends in `At` takes the parameters of 00_scope.md R9; the same name without it is the function at their
defaults. -/

namespace Sys2Proof

variable {wHist wTime : Nat}

/-! ### Phase codes -/

/-- The place of a phase in the list of 30_encoding.md R71. -/
def Phase.index : Phase → Nat
  | .start => 0
  | .powerwait0 => 1
  | .powerwait1 => 2
  | .poweron => 3
  | .bootwait0 => 4
  | .bootwait1 => 5
  | .boot => 6
  | .shutdown0 => 7
  | .shutdown1 => 8
  | .poweroff0 => 9
  | .poweroff1 => 10
  | .poweroff2 => 11
  | .idle0 => 12
  | .idle1 => 13
  | .idle2 => 14

/-- The 15 phases in the order of 30_encoding.md R71. -/
def Phase.all : List Phase :=
  [.start, .powerwait0, .powerwait1, .poweron, .bootwait0, .bootwait1, .boot, .shutdown0, .shutdown1,
   .poweroff0, .poweroff1, .poweroff2, .idle0, .idle1, .idle2]

/-- The code of a phase (`PHASE_CODE`, 00_scope.md R9). -/
def Phase.codeAt (P : Params wHist wTime) (p : Phase) : BitVec 4 := P.phaseCodes.getD p.index 0b1111#4

/-- `PHASE_CODE` at its default: 0 to 14 in the listed order (30_encoding.md R71). -/
def Phase.code (p : Phase) : BitVec 4 := p.codeAt Config.params

/-- The phase of a code; a code that no phase has is reserved (30_encoding.md R78). -/
def Phase.ofCodeAt (P : Params wHist wTime) (c : BitVec 4) : Option Phase :=
  Phase.all.find? fun p => p.codeAt P == c

/-- The phase of a code at the default codes; the reserved code 15 (30_encoding.md R78) has none. -/
def Phase.ofCode (c : BitVec 4) : Option Phase := Phase.ofCodeAt Config.params c

/-- The reserved code: the first that no phase has (30_encoding.md R78: 15 at the default codes). -/
def Params.reservedCode (P : Params wHist wTime) : BitVec 4 :=
  (((List.range 16).map (BitVec.ofNat 4)).find? fun c => (Phase.ofCodeAt P c).isNone).getD 0b1111#4

/-- The phase rule that a phase selects (43_sequencer.md R162). -/
def Phase.instr : Phase → Instr wTime
  | .start => .phStart
  | .powerwait0 => .phPowerwait0
  | .powerwait1 => .phPowerwait1
  | .poweron => .phPoweron
  | .bootwait0 => .phBootwait0
  | .bootwait1 => .phBootwait1
  | .boot => .phBoot
  | .shutdown0 => .phShutdown0
  | .shutdown1 => .phShutdown1
  | .poweroff0 => .phPoweroff0
  | .poweroff1 => .phPoweroff1
  | .poweroff2 => .phPoweroff2
  | .idle0 => .phIdle0
  | .idle1 => .phIdle1
  | .idle2 => .phIdle2

/-! ### Stimulus words -/

/-- The stimulus word of a tick (30_encoding.md R82): `now` above `stb`, `pw`, `usb`, `boot`. -/
def stimulusWord (inp : TickInputs wTime) : BitVec (wTime + 4) :=
  BitVec.ofNat (wTime + 4)
    (inp.now.toNat * 2 ^ 4 + inp.sampleStb.toNat * 2 ^ 3 + inp.pinPower.toNat * 2 ^ 2 + inp.pinUsb.toNat * 2 ^ 1
      + inp.pinBoot.toNat)

/-- The tick inputs of a stimulus word (30_encoding.md R82). -/
def inputsOfWord (w : BitVec (wTime + 4)) : TickInputs wTime where
  now := BitVec.ofNat wTime (w.toNat / 2 ^ 4)
  sampleStb := w.getLsbD 3
  pinPower := w.getLsbD 2
  pinUsb := w.getLsbD 1
  pinBoot := w.getLsbD 0

/-! ### Numbers in bytes -/

/-- The number held by bytes, the least significant first. -/
def bytesToNat : List Byte → Nat
  | [] => 0
  | b :: bs => b.toNat + 256 * bytesToNat bs

/-- The low `k` bytes of a number, the least significant first. -/
def natToBytes : Nat → Nat → List Byte
  | 0, _ => []
  | k + 1, n => BitVec.ofNat 8 n :: natToBytes k (n / 256)

/-- How many bytes hold so many bits. -/
def bytesFor (bits : Nat) : Nat := (bits + 7) / 8

/-! ### Decoding -/

/-- Why bytes are no instruction. -/
inductive DecodeError where
  /-- the OP6 identifier is not in the table (30_encoding.md R80) -/
  | unassigned
  /-- a bit outside the format's fields is set -/
  | padding
  /-- the bytes end before the instruction does -/
  | truncated
  /-- the history matches none of the four decodes, which is legal (30_encoding.md R79) -/
  | noEvent
deriving DecidableEq, Repr

/-- The operand an operation takes (30_encoding.md R74), with the instruction it makes. -/
inductive OperandForm (wTime : Nat) where
  | bare (i : Instr wTime)
  | bit (mk : Bool → Instr wTime)
  | time (mk : Time wTime → Instr wTime)
  | inputs (mk : TickInputs wTime → Instr wTime)

/-- The operation table of 30_encoding.md R74, in its order. -/
def op6Rows : List (Byte × OperandForm wTime) :=
  [(0b000000#8, .bit .debUpdate),
   (0b000001#8, .bare .debIsUp),
   (0b000010#8, .bare .debIsDown),
   (0b000011#8, .bare .debIsPressed),
   (0b000100#8, .bare .debIsReleased),
   (0b001000#8, .bit .lsUpdate),
   (0b001001#8, .bare .lsIsHigh),
   (0b001010#8, .bare .lsIsLow),
   (0b001011#8, .bare .lsWentHigh),
   (0b001100#8, .bare .lsWentLow),
   (0b010000#8, .time .tmrRecord),
   (0b010001#8, .time .tmrElapsed),
   (0b010010#8, .time .tmrHeld),
   (0b011000#8, .time .btnEvents),
   (0b100000#8, .bare .ioReadPower),
   (0b100001#8, .bare .ioReadUsb),
   (0b100010#8, .bare .ioReadBoot),
   (0b100011#8, .bare .ioEnAssert),
   (0b100100#8, .bare .ioEnDeassert),
   (0b100101#8, .bare .ioSdAssert),
   (0b100110#8, .bare .ioSdDeassert),
   (0b100111#8, .bare .ioHalt),
   (0b101000#8, .inputs .seqTick),
   (0b101001#8, .bit .seqOverride),
   (0b101010#8, .bare .seqReset)]

/-- A one-bit operand: bit 0 of a byte, the other bits zero. -/
def readBit : List Byte → Except DecodeError (Bool × List Byte)
  | [] => .error .truncated
  | b :: rest =>
    if b == 0#8 then .ok (false, rest) else if b == 1#8 then .ok (true, rest) else .error .padding

/-- A value of `w` bits: as many bytes as hold it, the least significant first, the bits above it zero. -/
def readBits (w : Nat) (bs : List Byte) : Except DecodeError (BitVec w × List Byte) :=
  if bytesFor w ≤ bs.length then
    let n := bytesToNat (bs.take (bytesFor w))
    if n < 2 ^ w then .ok (BitVec.ofNat w n, bs.drop (bytesFor w)) else .error .padding
  else .error .truncated

/-- A `TIME` operand: `W_TIME` bits, four bytes at the default width. -/
def readTime (bs : List Byte) : Except DecodeError (Time wTime × List Byte) := readBits wTime bs

/-- A stimulus word: `W_TIME + 4` bits, five bytes at the default width. -/
def readInputs (bs : List Byte) : Except DecodeError (TickInputs wTime × List Byte) :=
  (readBits (wTime + 4) bs).map fun r => (inputsOfWord r.1, r.2)

/-- Read the operand that the form names. -/
def OperandForm.read (bs : List Byte) : OperandForm wTime → Except DecodeError (Instr wTime × List Byte)
  | .bare i => .ok (i, bs)
  | .bit mk => (readBit bs).map fun r => (mk r.1, r.2)
  | .time mk => (readTime bs).map fun r => (mk r.1, r.2)
  | .inputs mk => (readInputs bs).map fun r => (mk r.1, r.2)

/-- An operation with its operand; an identifier outside the table is unassigned (30_encoding.md R80). -/
def decodeOp6 : List Byte → Except DecodeError (Instr wTime × List Byte)
  | [] => .error .truncated
  | b :: rest =>
    match op6Rows.lookup b with
    | some form => form.read rest
    | none => .error .unassigned

/-- The phase rule of a 4-bit code in the low bits of a byte (30_encoding.md R71); a code that no phase has is the
table's reserved row (R78). -/
def decodePhase4 (P : Params wHist wTime) : List Byte → Except DecodeError (Instr wTime × List Byte)
  | [] => .error .truncated
  | b :: rest =>
    if b >>> 4 == 0#8 then
      match Phase.ofCodeAt P (b.setWidth 4) with
      | some p => .ok (p.instr, rest)
      | none => .ok (.phReserved, rest)
    else .error .padding

/-- The event that a history selects (30_encoding.md R73): its masked value against the patterns of 00_scope.md R9,
and the settled values. The operand `mid` is the field MID = [5:3] (R72), which no default pattern compares. -/
def decodeHistAt (P : Params wHist wTime) (h : History wHist) : Option (Instr wTime) :=
  if h &&& P.debMask == P.debPressed then some (.histPressed (h.extractLsb' 3 3))
  else if h &&& P.debMask == P.debReleased then some (.histReleased (h.extractLsb' 3 3))
  else if h == P.debDown then some .histDown
  else if h == P.debUp then some .histUp
  else none

/-- The event that a history selects at the default patterns (30_encoding.md R73). -/
def decodeHist (h : History) : Option Instr := decodeHistAt Config.params h

/-- `decodeHistAt` on the history at the head of the bytes. -/
def decodeHist8 (P : Params wHist wTime) (bs : List Byte) : Except DecodeError (Instr wTime × List Byte) :=
  match readBits wHist bs with
  | .ok (h, rest) =>
    match decodeHistAt P h with
    | some i => .ok (i, rest)
    | none => .error .noEvent
  | .error e => .error e

/-- The instruction at the head of the bytes, read in the given format, and the bytes after it. -/
def decodeAt (P : Params wHist wTime) : Format → List Byte → Except DecodeError (Instr wTime × List Byte)
  | .op6 => decodeOp6
  | .phase4 => decodePhase4 P
  | .hist8 => decodeHist8 P

/-- `decodeAt` at the default parameters. -/
def decode : Format → List Byte → Except DecodeError (Instr × List Byte) := decodeAt Config.params

/-! ### Encoding -/

/-- The byte of a one-bit operand. -/
def bitBytes (b : Bool) : List Byte := [if b then 1#8 else 0#8]

/-- The bytes of a value of `w` bits, the least significant first. -/
def bitsBytes {w : Nat} (v : BitVec w) : List Byte := natToBytes (bytesFor w) v.toNat

/-- The bytes of a `TIME` operand. -/
def timeBytes (t : Time wTime) : List Byte := bitsBytes t

/-- The bytes of a stimulus word. -/
def inputsBytes (inp : TickInputs wTime) : List Byte := bitsBytes (stimulusWord inp)

/-- A history that matches a pattern, with `mid` in the field MID = [5:3] where the mask leaves it free
(30_encoding.md R72). -/
def patternWith (P : Params wHist wTime) (pattern : History wHist) (mid : BitVec 3) : History wHist :=
  pattern ||| mid.setWidth wHist <<< 3 &&& ~~~P.debMask

/-- The format of an instruction's word. -/
def formatOf : Instr wTime → Format
  | .phStart | .phPowerwait0 | .phPowerwait1 | .phPoweron | .phBootwait0 | .phBootwait1 | .phBoot
  | .phShutdown0 | .phShutdown1 | .phPoweroff0 | .phPoweroff1 | .phPoweroff2 | .phIdle0 | .phIdle1 | .phIdle2
  | .phReserved => .phase4
  | .histPressed _ | .histReleased _ | .histDown | .histUp => .hist8
  | .debUpdate _ | .debIsUp | .debIsDown | .debIsPressed | .debIsReleased
  | .lsUpdate _ | .lsIsHigh | .lsIsLow | .lsWentHigh | .lsWentLow
  | .tmrRecord _ | .tmrElapsed _ | .tmrHeld _ | .btnEvents _
  | .ioReadPower | .ioReadUsb | .ioReadBoot | .ioEnAssert | .ioEnDeassert | .ioSdAssert | .ioSdDeassert | .ioHalt
  | .seqTick _ | .seqOverride _ | .seqReset => .op6

/-- The bytes of an instruction (30_encoding.md R71, R73, R74; opcode_table.json). -/
def encodeAt (P : Params wHist wTime) : Instr wTime → List Byte
  | .debUpdate s => 0b000000#8 :: bitBytes s
  | .debIsUp => [0b000001#8]
  | .debIsDown => [0b000010#8]
  | .debIsPressed => [0b000011#8]
  | .debIsReleased => [0b000100#8]
  | .lsUpdate s => 0b001000#8 :: bitBytes s
  | .lsIsHigh => [0b001001#8]
  | .lsIsLow => [0b001010#8]
  | .lsWentHigh => [0b001011#8]
  | .lsWentLow => [0b001100#8]
  | .tmrRecord now => 0b010000#8 :: timeBytes now
  | .tmrElapsed now => 0b010001#8 :: timeBytes now
  | .tmrHeld now => 0b010010#8 :: timeBytes now
  | .btnEvents now => 0b011000#8 :: timeBytes now
  | .ioReadPower => [0b100000#8]
  | .ioReadUsb => [0b100001#8]
  | .ioReadBoot => [0b100010#8]
  | .ioEnAssert => [0b100011#8]
  | .ioEnDeassert => [0b100100#8]
  | .ioSdAssert => [0b100101#8]
  | .ioSdDeassert => [0b100110#8]
  | .ioHalt => [0b100111#8]
  | .seqTick inp => 0b101000#8 :: inputsBytes inp
  | .seqOverride lp => 0b101001#8 :: bitBytes lp
  | .seqReset => [0b101010#8]
  | .phStart => [(Phase.codeAt P .start).setWidth 8]
  | .phPowerwait0 => [(Phase.codeAt P .powerwait0).setWidth 8]
  | .phPowerwait1 => [(Phase.codeAt P .powerwait1).setWidth 8]
  | .phPoweron => [(Phase.codeAt P .poweron).setWidth 8]
  | .phBootwait0 => [(Phase.codeAt P .bootwait0).setWidth 8]
  | .phBootwait1 => [(Phase.codeAt P .bootwait1).setWidth 8]
  | .phBoot => [(Phase.codeAt P .boot).setWidth 8]
  | .phShutdown0 => [(Phase.codeAt P .shutdown0).setWidth 8]
  | .phShutdown1 => [(Phase.codeAt P .shutdown1).setWidth 8]
  | .phPoweroff0 => [(Phase.codeAt P .poweroff0).setWidth 8]
  | .phPoweroff1 => [(Phase.codeAt P .poweroff1).setWidth 8]
  | .phPoweroff2 => [(Phase.codeAt P .poweroff2).setWidth 8]
  | .phIdle0 => [(Phase.codeAt P .idle0).setWidth 8]
  | .phIdle1 => [(Phase.codeAt P .idle1).setWidth 8]
  | .phIdle2 => [(Phase.codeAt P .idle2).setWidth 8]
  | .phReserved => [P.reservedCode.setWidth 8]
  | .histPressed mid => bitsBytes (patternWith P P.debPressed mid)
  | .histReleased mid => bitsBytes (patternWith P P.debReleased mid)
  | .histDown => bitsBytes P.debDown
  | .histUp => bitsBytes P.debUp

/-- `encodeAt` at the default parameters. -/
def encode : Instr → List Byte := encodeAt Config.params

/-! ### Stimulus scripts -/

/-- The ticks of a `REPEAT`: `step` is added to `now` each time (30_encoding.md R82), modulo `2^W_TIME`.
DESIGN CHOICE (notes/assumptions/16.md). -/
def repeatTicks (step : Time wTime) : Nat → TickInputs wTime → List (Instr wTime)
  | 0, _ => []
  | n + 1, inp => .seqTick inp :: repeatTicks step n { inp with now := inp.now + step }

/-- The operations a script line stands for (30_encoding.md R82). -/
def ScriptLine.expand : ScriptLine wTime → List (Instr wTime)
  | .tick inp => [.seqTick inp]
  | .repeatTick n step inp => repeatTicks step n inp
  | .reset => [.seqReset]

/-- The bytes of a stimulus script. -/
def scriptBytesAt (P : Params wHist wTime) (lines : List (ScriptLine wTime)) : List Byte :=
  (lines.flatMap ScriptLine.expand).flatMap (encodeAt P)

/-- `scriptBytesAt` at the default parameters. -/
def scriptBytes : List (ScriptLine 32) → List Byte := scriptBytesAt Config.params

/-! ### Table words -/

/-- The bytes of a table word, the first at bits [7:0], as many as the longest instruction has. -/
def tableBytes (w : Nat) : List Byte := natToBytes 6 w

/-- The formats in which a table word of `nbits` bits can be meant. The numbers of the three formats overlap and
a whole byte does not say which is meant: they are tried in the table's order.
DESIGN CHOICE (notes/assumptions/5.md). -/
def tableFormats (nbits : Nat) : List Format :=
  if nbits = 4 then [.phase4] else if nbits = 6 then [.op6] else [.op6, .phase4, .hist8]

/-- A table word read in one format; the bytes after the instruction must be zero. -/
def decodeWhole (f : Format) (bs : List Byte) : Option Instr :=
  match decode f bs with
  | .ok (i, rest) => if rest.all (· == 0#8) then some i else none
  | .error _ => none

/-- The instruction the decoder reads from a table word. -/
def decodeTableWord (nbits w : Nat) : Option Instr :=
  (tableFormats nbits).findSome? fun f => decodeWhole f (tableBytes w)

end Sys2Proof
end

