-- ==== Sys2Proof/Machine/State.lean ====
section
/-! DEFINITION. The state of the pipower CORE as plain data: the nine registers of 10_state.md R20, the values of
the latest tick (R33, R34, R40 to R43), and the environment's side (which word comes next, the pending script). The
widths `W_HIST` and `W_TIME` (00_scope.md R9) are parameters of the type `State.Of`; `State` is the state of the machine
of the default widths. -/

namespace Sys2Proof.Machine

open Sys2Proof

variable {wHist wTime : Nat}

/-- `TickOutputs` of 10_state.md R43. -/
structure TickOutputs where
  /-- level of the EN pin -/
  enPin : Bool
  /-- level of the SHUTDOWN pin -/
  shutdownPin : Bool
  /-- the low-power-wait request of this tick -/
  haltReq : Bool
deriving DecidableEq, Repr

/-- The result of the operation issued last (30_encoding.md R74, column "result"). -/
inductive Result (wTime : Nat) where
  | none
  | bit (b : Bool)
  | time (t : Time wTime)
  | events (shortPress longPress : Bool)
  | outputs (o : TickOutputs)
deriving DecidableEq, Repr

/-- The values of the latest tick. They are not CORE state between ticks: every tick computes them anew
(10_state.md R32, R33, R34, R40 to R42; 30_encoding.md R83). -/
structure PerTick (wTime : Nat) where
  /-- the tick inputs, latched at the start of the tick -/
  inputs : TickInputs wTime
  /-- the BOOT level of the tick, as "asserted" -/
  bootAsserted : Bool
  /-- DEB.IS_PRESSED fired in this tick, `p=` -/
  pressed : Bool
  /-- DEB.IS_RELEASED fired in this tick, `r=` -/
  released : Bool
  shortPress : Bool
  longPress : Bool
  haltReq : Bool
  /-- the phases evaluated in this tick, first to last, `eval=` -/
  evaluated : List Phase
  result : Result wTime
deriving DecidableEq, Repr

/-- The values at the start of a tick with these inputs: nothing has happened yet. -/
def PerTick.begin (inp : TickInputs wTime) : PerTick wTime where
  inputs := inp
  bootAsserted := false
  pressed := false
  released := false
  shortPress := false
  longPress := false
  haltReq := false
  evaluated := []
  result := .none

/-- The tick inputs held after reset, before any tick: time 0, no strobe, the pulled-up pins high (44_gpio.md
R213), USB low. DESIGN CHOICE (notes/assumptions/3.md), unsafe. -/
def TickInputs.idle : TickInputs wTime where
  now := 0#wTime
  sampleStb := false
  pinPower := true
  pinUsb := false
  pinBoot := true

/-- Where the next step fetches its instruction (30_encoding.md R70: three formats, three places). -/
inductive FetchPlace where
  /-- an operation from the script, or the environment's free stimulus when the script is empty -/
  | script
  /-- the rule that the `phase` register selects: what `chain` asks for (00_scope.md R13, 43_sequencer.md R163) -/
  | phaseRegister
  /-- the decode of the `history` register (30_encoding.md R73) -/
  | historyRegister
  /-- the reserved phase code 15 of a 4-bit rendering, which `phase` cannot hold (30_encoding.md R78) -/
  | reservedCode
deriving DecidableEq, Repr

/-- The state of the machine whose history has `wHist` bits and whose time base has `wTime` (00_scope.md R9). -/
structure State.Of (wHist wTime : Nat) where
  /-- the debouncer's shift register (10_state.md R21) -/
  history : History wHist
  /-- the level sensor's current level (10_state.md R23) -/
  state : Bool
  /-- the level at the latest edge query (10_state.md R24) -/
  lastState : Bool
  /-- the sequencer's phase, the machine's program counter (10_state.md R26) -/
  phase : Phase
  /-- timestamp of the current wait (10_state.md R27) -/
  phaseTimer : Time wTime
  /-- timestamp of the last press event (10_state.md R28) -/
  timePressed : Time wTime
  /-- a long press is being soaked up (10_state.md R29) -/
  buttonIgnored : Bool
  /-- output latch of EN (10_state.md R30) -/
  en : Bool
  /-- output latch of SHUTDOWN (10_state.md R31) -/
  shutdown : Bool
  /-- the values of the latest tick -/
  tick : PerTick wTime
  /-- the model's: where the next step fetches -/
  select : FetchPlace
  /-- the model's: the bytes of the pending script (30_encoding.md R82) -/
  script : List Byte
  /-- the model's: how often the free stimulus was used -/
  issued : Nat
deriving DecidableEq, Repr

/-- The state of the machine of the default widths: `W_HIST` = 8, `W_TIME` = 32 (00_scope.md R9). -/
abbrev State : Type := State.Of 8 32

/-- The machine never faults: no operation raises an exception (60_exceptions.md R220), so this type has no
constructor. -/
inductive Fault where
deriving DecidableEq, Repr

/-- Why a step has no next state. -/
inductive Refusal where
  /-- No meaning is written for the instruction. Raised by an arm of exec only; safe. -/
  | notModelled (mnemonic : String)
  /-- Phase code 15. Raised by PH.(reserved); the spec's own treatment is `refuse` (30_encoding.md R78,
  93_implementation_defined.md U1); safe. -/
  | reservedPhase
  /-- An OP6 identifier outside the table. Raised by step on a script; the spec's own treatment is `refuse`
  (30_encoding.md R80, 93_implementation_defined.md U2); safe. -/
  | unassignedOperation
  /-- A script whose bytes are cut off in an operand or set a bit outside the operand. Raised by step on a script;
  the byte layout is the model's (notes/assumptions/4.md); safe. -/
  | malformedOperand
deriving DecidableEq, Repr

/-! ### Register writes -/

/-- `history <- v` (00_scope.md R13). -/
def State.Of.setHistory (s : State.Of wHist wTime) (v : History wHist) : State.Of wHist wTime := { s with history := v }

/-- `state <- v` (00_scope.md R13). -/
def State.Of.setState (s : State.Of wHist wTime) (v : Bool) : State.Of wHist wTime := { s with state := v }

/-- `lastState <- v` (00_scope.md R13). -/
def State.Of.setLastState (s : State.Of wHist wTime) (v : Bool) : State.Of wHist wTime := { s with lastState := v }

/-- `phase <- v` (00_scope.md R13). -/
def State.Of.setPhase (s : State.Of wHist wTime) (v : Phase) : State.Of wHist wTime := { s with phase := v }

/-- `phaseTimer <- v` (00_scope.md R13). -/
def State.Of.setPhaseTimer (s : State.Of wHist wTime) (v : Time wTime) : State.Of wHist wTime :=
  { s with phaseTimer := v }

/-- `timePressed <- v` (00_scope.md R13). -/
def State.Of.setTimePressed (s : State.Of wHist wTime) (v : Time wTime) : State.Of wHist wTime :=
  { s with timePressed := v }

/-- `buttonIgnored <- v` (00_scope.md R13). -/
def State.Of.setButtonIgnored (s : State.Of wHist wTime) (v : Bool) : State.Of wHist wTime :=
  { s with buttonIgnored := v }

/-- `en <- v` (00_scope.md R13). -/
def State.Of.setEn (s : State.Of wHist wTime) (v : Bool) : State.Of wHist wTime := { s with en := v }

/-- `shutdown <- v` (00_scope.md R13). -/
def State.Of.setShutdown (s : State.Of wHist wTime) (v : Bool) : State.Of wHist wTime := { s with shutdown := v }

/-- `tick <- v` (00_scope.md R13). -/
def State.Of.setTick (s : State.Of wHist wTime) (v : PerTick wTime) : State.Of wHist wTime := { s with tick := v }

/-- `select <- v` (00_scope.md R13). -/
def State.Of.setSelect (s : State.Of wHist wTime) (v : FetchPlace) : State.Of wHist wTime := { s with select := v }

/-- `script <- v` (00_scope.md R13). -/
def State.Of.setScript (s : State.Of wHist wTime) (v : List Byte) : State.Of wHist wTime := { s with script := v }

/-- `issued <- v` (00_scope.md R13). -/
def State.Of.setIssued (s : State.Of wHist wTime) (v : Nat) : State.Of wHist wTime := { s with issued := v }

/-- The machine of the given parameters right after reset: the values of 10_state.md R37, and no tick yet. -/
def resetAt (P : Params wHist wTime) : State.Of wHist wTime where
  history := P.histReset
  state := false
  lastState := false
  phase := .start
  phaseTimer := 0#wTime
  timePressed := 0#wTime
  buttonIgnored := false
  en := false
  shutdown := false
  tick := PerTick.begin TickInputs.idle
  select := .script
  script := []
  issued := 0

/-- The machine right after reset, at the default parameters (10_state.md R37). -/
def State.reset : State := resetAt Config.params

end Sys2Proof.Machine
end

