-- ==== Sys2Proof/Machine/Operands.lean ====
section
/-! DEFINITION. Operand assembly: pin levels (44_gpio.md R200), the shifted history, time differences and the
BOOT level (30_encoding.md R77). Pure functions of values. -/

namespace Sys2Proof.Machine

open Sys2Proof

variable {wHist wTime : Nat}

/-- `history' = ((history << 1) | zext_8(s))[7:0]` (30_encoding.md R77 a), in `W_HIST` bits. -/
def shiftIn (history : History wHist) (sample : Bool) : History wHist :=
  history <<< 1 ||| (BitVec.ofBool sample).setWidth wHist

/-- `now -_W t = (now - t) mod 2^W_TIME` (42_timer_button.md R141, 30_encoding.md R77 c). -/
def timeSince (now t : Time wTime) : Time wTime := now - t

/-- `boot_asserted = (pin_boot == BOOT_ACTIVE)` (30_encoding.md R77 d, 44_gpio.md R203). -/
def bootLevelAsserted (P : Params wHist wTime) (pinBoot : Bool) : Bool := pinBoot == P.bootActive

/-- The level of an output pin whose latch is `latch` (10_state.md R43, 44_gpio.md R204). -/
def pinLevel (active latch : Bool) : Bool := if latch then active else !active

/-- `PinRead(POWER)`: the level of the tick (44_gpio.md R200, R201). -/
def pinReadPower (s : State.Of wHist wTime) : Bool := s.tick.inputs.pinPower

/-- `PinRead(USB)` (44_gpio.md R200, R202). -/
def pinReadUsb (s : State.Of wHist wTime) : Bool := s.tick.inputs.pinUsb

/-- `PinRead(BOOT)` (44_gpio.md R200, R203). -/
def pinReadBoot (s : State.Of wHist wTime) : Bool := s.tick.inputs.pinBoot

/-- TMR.ELAPSED, the time since `phase_timer` (42_timer_button.md R142). -/
def elapsed (now : Time wTime) (s : State.Of wHist wTime) : Time wTime := timeSince now s.phaseTimer

/-- TMR.HELD, the time since `time_pressed` (42_timer_button.md R144). -/
def held (now : Time wTime) (s : State.Of wHist wTime) : Time wTime := timeSince now s.timePressed

/-- The outputs after a tick, taken from the latches (10_state.md R43). -/
def tickOutputs (P : Params wHist wTime) (s : State.Of wHist wTime) : TickOutputs where
  enPin := pinLevel P.enActive s.en
  shutdownPin := pinLevel P.sdActive s.shutdown
  haltReq := s.tick.haltReq

end Sys2Proof.Machine
end

