-- ==== Sys2Proof/Machine/Flags.lean ====
section
/-! DEFINITION. The comparisons that decide events: the history decodes of 30_encoding.md R73, the edges of
41_level_sensor.md R125, the thresholds of 42_timer_button.md R148, the button pulses of R145 and R146. -/

namespace Sys2Proof.Machine

open Sys2Proof

variable {wHist wTime : Nat}

/-- `(history & DEB_MASK) == DEB_PRESSED` (40_debouncer.md R103). -/
def matchesPressed (P : Params wHist wTime) (h : History wHist) : Bool := h &&& P.debMask == P.debPressed

/-- `(history & DEB_MASK) == DEB_RELEASED` (40_debouncer.md R104). -/
def matchesReleased (P : Params wHist wTime) (h : History wHist) : Bool := h &&& P.debMask == P.debReleased

/-- `history == DEB_UP` (40_debouncer.md R101). -/
def settledUp (P : Params wHist wTime) (h : History wHist) : Bool := h == P.debUp

/-- `history == DEB_DOWN` (40_debouncer.md R102). -/
def settledDown (P : Params wHist wTime) (h : History wHist) : Bool := h == P.debDown

/-- `(state == 1) and (last_state == 0)` (41_level_sensor.md R123). -/
def risingEdge (state lastState : Bool) : Bool := state && !lastState

/-- `(state == 0) and (last_state == 1)` (41_level_sensor.md R124). -/
def fallingEdge (state lastState : Bool) : Bool := !state && lastState

/-- A phase timeout is the strict `elapsed > T` (42_timer_button.md R142, R148). -/
def timedOut (elapsed threshold : Time wTime) : Bool := threshold < elapsed

/-- A hold is long when `held >= T_LONG_PRESS` (42_timer_button.md R146, R148). -/
def longHold (P : Params wHist wTime) (held : Time wTime) : Bool := P.tLongPress ≤ held

/-- A hold is short when `held < T_LONG_PRESS` (42_timer_button.md R145, R148). -/
def shortHold (P : Params wHist wTime) (held : Time wTime) : Bool := held < P.tLongPress

/-- `short_press`: a release that is not soaked up, after a short hold (42_timer_button.md R145). -/
def shortPressRaised (P : Params wHist wTime) (released ignored : Bool) (held : Time wTime) : Bool :=
  released && !ignored && shortHold P held

/-- `long_press`: settled down, not soaked up, held long (42_timer_button.md R146). -/
def longPressRaised (P : Params wHist wTime) (down ignored : Bool) (held : Time wTime) : Bool :=
  down && !ignored && longHold P held

end Sys2Proof.Machine
end

