-- ==== Sys2Proof/Machine/Ops.lean ====
section
/-! DEFINITION. The named operations over the registers, shared by the instructions' meanings and by the tick.
The machine has no memory (20_memory.md R50). The one trap is the long-press override (60_exceptions.md R226);
it saves nothing and there is no return from it (R227). -/

namespace Sys2Proof.Machine

open Sys2Proof

variable {wHist wTime : Nat}

/-! ### The operation's result -/

/-- Hand an operation's result to whoever issued it (30_encoding.md R74). -/
def withResult (r : Result wTime) (s : State.Of wHist wTime) :
    State.Of wHist wTime := s.setTick { s.tick with result := r }

/-! ### Debouncer -/

/-- DEB.UPDATE: shift one sample into the history (40_debouncer.md R100). -/
def debShift (sample : Bool) (s : State.Of wHist wTime) : State.Of wHist wTime :=
  s.setHistory (shiftIn s.history sample)

/-- A press event forces the history to `DEB_DOWN` (40_debouncer.md R103). -/
def forceDown (P : Params wHist wTime) (s : State.Of wHist wTime) : State.Of wHist wTime := s.setHistory P.debDown

/-- A release event forces the history to `DEB_UP` (40_debouncer.md R104). -/
def forceUp (P : Params wHist wTime) (s : State.Of wHist wTime) : State.Of wHist wTime := s.setHistory P.debUp

/-- DEB.IS_PRESSED's write: forced when it fires, unchanged when not (40_debouncer.md R103). -/
def settlePressed (P : Params wHist wTime) (s : State.Of wHist wTime) : State.Of wHist wTime :=
  if matchesPressed P s.history then forceDown P s else s

/-- DEB.IS_RELEASED's write (40_debouncer.md R104). -/
def settleReleased (P : Params wHist wTime) (s : State.Of wHist wTime) : State.Of wHist wTime :=
  if matchesReleased P s.history then forceUp P s else s

/-! ### Level sensor -/

/-- LS.UPDATE: `state <- s`, `last_state` untouched (41_level_sensor.md R120). -/
def lsSample (sample : Bool) (s : State.Of wHist wTime) : State.Of wHist wTime := s.setState sample

/-- The write of either edge query, fired or not: `last_state <- state` (41_level_sensor.md R123, R124). -/
def consumeEdge (s : State.Of wHist wTime) : State.Of wHist wTime := s.setLastState s.state

/-- LS.WENT_HIGH's result (41_level_sensor.md R123). -/
def wentHigh (s : State.Of wHist wTime) : Bool := risingEdge s.state s.lastState

/-- LS.WENT_LOW's result (41_level_sensor.md R124). -/
def wentLow (s : State.Of wHist wTime) : Bool := fallingEdge s.state s.lastState

/-! ### Timer and output latches -/

/-- TMR.RECORD: `phase_timer <- now` (42_timer_button.md R140). -/
def recordTimer (now : Time wTime) (s : State.Of wHist wTime) : State.Of wHist wTime := s.setPhaseTimer now

/-- IO.EN_ASSERT: `en <- 1` (44_gpio.md R205). -/
def assertEn (s : State.Of wHist wTime) : State.Of wHist wTime := s.setEn true

/-- IO.EN_DEASSERT: `en <- 0` (44_gpio.md R206). -/
def deassertEn (s : State.Of wHist wTime) : State.Of wHist wTime := s.setEn false

/-- IO.SD_ASSERT: `shutdown <- 1` (44_gpio.md R208). -/
def assertShutdown (s : State.Of wHist wTime) : State.Of wHist wTime := s.setShutdown true

/-- IO.SD_DEASSERT: `shutdown <- 0` (44_gpio.md R209). -/
def deassertShutdown (s : State.Of wHist wTime) : State.Of wHist wTime := s.setShutdown false

/-- IO.HALT: `if HALT_ENABLE: halt_req <- 1`; no register changes (44_gpio.md R207). -/
def requestHalt (P : Params wHist wTime) (s : State.Of wHist wTime) : State.Of wHist wTime :=
  if P.haltEnable then s.setTick { s.tick with haltReq := true } else s

/-- IO.READ_BOOT: `boot_asserted <- (PinRead(BOOT) == BOOT_ACTIVE)` (44_gpio.md R203). -/
def readBoot (P : Params wHist wTime) (s : State.Of wHist wTime) : State.Of wHist wTime :=
  s.setTick { s.tick with bootAsserted := bootLevelAsserted P (pinReadBoot s) }

/-! ### The override: the machine's one trap -/

/-- TAKING THE TRAP (60_exceptions.md R226, 43_sequencer.md R161): nothing is saved; `phase`, the machine's
program counter, goes to the fixed target POWEROFF2; `button_ignored` is set, which keeps the same hold from
trapping again (R227). -/
def takeOverride (s : State.Of wHist wTime) : State.Of wHist wTime := (s.setPhase .poweroff2).setButtonIgnored true

/-- There is no return from the trap (60_exceptions.md R227). What ends is the soaking-up of the press: the
release event clears `button_ignored` and raises nothing (42_timer_button.md R145). -/
def endSoakUp (s : State.Of wHist wTime) : State.Of wHist wTime := s.setButtonIgnored false

/-- SEQ.OVERRIDE: the trap is taken when `long_press = 1` (43_sequencer.md R161). -/
def override (longPress : Bool) (s : State.Of wHist wTime) : State.Of wHist wTime :=
  if longPress then takeOverride s else s

/-! ### Button events -/

/-- The first half of BTN.EVENTS: both one-shot queries in order, and the stamp of a press
(42_timer_button.md R143). -/
def senseButton (P : Params wHist wTime) (now : Time wTime) (s : State.Of wHist wTime) : State.Of wHist wTime :=
  let p := matchesPressed P s.history
  let s1 := settlePressed P s
  let r := matchesReleased P s1.history
  let s2 := settleReleased P s1
  let s3 := if p then s2.setTimePressed now else s2
  s3.setTick { s3.tick with pressed := p, released := r }

/-- The second half of BTN.EVENTS: the release arm (42_timer_button.md R145), then the long-press test (R146). -/
def raisePresses (P : Params wHist wTime) (now : Time wTime) (s : State.Of wHist wTime) : State.Of wHist wTime :=
  let r := s.tick.released
  let h := held now s
  let s1 := if r && s.buttonIgnored then endSoakUp s else s
  s1.setTick { s1.tick with
    shortPress := shortPressRaised P r s.buttonIgnored h
    longPress := longPressRaised P (settledDown P s1.history) s1.buttonIgnored h }

/-- BTN.EVENTS (42_timer_button.md R143). -/
def buttonEvents (P : Params wHist wTime) (now : Time wTime) (s : State.Of wHist wTime) : State.Of wHist wTime :=
  raisePresses P now (senseButton P now s)

/-! ### Reset -/

/-- SEQ.RESET: every register takes its reset value (70_reset_and_hazards.md R250, 10_state.md R37). The pending
script is the environment's and stays. DESIGN CHOICE (notes/assumptions/15.md). -/
def resetCore (P : Params wHist wTime) (s : State.Of wHist wTime) : State.Of wHist wTime :=
  { resetAt P with script := s.script, issued := s.issued }

end Sys2Proof.Machine
end

