-- ==== Sys2Proof/Machine/Debouncer.lean ====
section
/-! DEFINITION. The meanings of the debouncer's operations (40_debouncer.md R100 to R104). -/

namespace Sys2Proof.Machine

open Sys2Proof Host

variable {wHist wTime : Nat}

/-- DEB.UPDATE (40_debouncer.md R100). -/
def execDebUpdate (sample : Bool) (s : State.Of wHist wTime) : Outcome (State.Of wHist wTime) Fault Refusal :=
  .next (withResult .none (debShift sample s))

/-- DEB.IS_UP (40_debouncer.md R101): a pure query. -/
def execDebIsUp (s : State.Of wHist wTime) (P : Params wHist wTime := Config.params wHist wTime) :
    Outcome (State.Of wHist wTime) Fault Refusal :=
  .next (withResult (.bit (settledUp P s.history)) s)

/-- DEB.IS_DOWN (40_debouncer.md R102): a pure query. -/
def execDebIsDown (s : State.Of wHist wTime) (P : Params wHist wTime := Config.params wHist wTime) :
    Outcome (State.Of wHist wTime) Fault Refusal :=
  .next (withResult (.bit (settledDown P s.history)) s)

/-- DEB.IS_PRESSED (40_debouncer.md R103): forces the history when it fires. -/
def execDebIsPressed (s : State.Of wHist wTime) (P : Params wHist wTime := Config.params wHist wTime) :
    Outcome (State.Of wHist wTime) Fault Refusal :=
  .next (withResult (.bit (matchesPressed P s.history)) (settlePressed P s))

/-- DEB.IS_RELEASED (40_debouncer.md R104): forces the history when it fires. -/
def execDebIsReleased (s : State.Of wHist wTime) (P : Params wHist wTime := Config.params wHist wTime) :
    Outcome (State.Of wHist wTime) Fault Refusal :=
  .next (withResult (.bit (matchesReleased P s.history)) (settleReleased P s))

end Sys2Proof.Machine
end

