-- ==== Sys2Proof/Machine/Gpio.lean ====
section
/-! DEFINITION. The meanings of the GPIO driver's operations (44_gpio.md R200 to R209). -/

namespace Sys2Proof.Machine

open Sys2Proof Host

variable {wHist wTime : Nat}

/-- IO.READ_POWER (44_gpio.md R201): the raw level, no inversion. -/
def execIoReadPower (s : State.Of wHist wTime) : Outcome (State.Of wHist wTime) Fault Refusal :=
  .next (withResult (.bit (pinReadPower s)) s)

/-- IO.READ_USB (44_gpio.md R202): the raw level, no inversion. -/
def execIoReadUsb (s : State.Of wHist wTime) : Outcome (State.Of wHist wTime) Fault Refusal :=
  .next (withResult (.bit (pinReadUsb s)) s)

/-- IO.READ_BOOT (44_gpio.md R203): the result is `boot_asserted`. DEDUCED (notes/assumptions/11.md). -/
def execIoReadBoot (s : State.Of wHist wTime) (P : Params wHist wTime := Config.params wHist wTime) :
    Outcome (State.Of wHist wTime) Fault Refusal :=
  let t := readBoot P s
  .next (withResult (.bit t.tick.bootAsserted) t)

/-- IO.EN_ASSERT (44_gpio.md R205). -/
def execIoEnAssert (s : State.Of wHist wTime) : Outcome (State.Of wHist wTime) Fault Refusal :=
  .next (withResult .none (assertEn s))

/-- IO.EN_DEASSERT (44_gpio.md R206). -/
def execIoEnDeassert (s : State.Of wHist wTime) : Outcome (State.Of wHist wTime) Fault Refusal :=
  .next (withResult .none (deassertEn s))

/-- IO.SD_ASSERT (44_gpio.md R208). -/
def execIoSdAssert (s : State.Of wHist wTime) : Outcome (State.Of wHist wTime) Fault Refusal :=
  .next (withResult .none (assertShutdown s))

/-- IO.SD_DEASSERT (44_gpio.md R209). -/
def execIoSdDeassert (s : State.Of wHist wTime) : Outcome (State.Of wHist wTime) Fault Refusal :=
  .next (withResult .none (deassertShutdown s))

/-- IO.HALT (44_gpio.md R207). -/
def execIoHalt (s : State.Of wHist wTime) (P : Params wHist wTime := Config.params wHist wTime) :
    Outcome (State.Of wHist wTime) Fault Refusal :=
  .next (withResult .none (requestHalt P s))

end Sys2Proof.Machine
end

