-- ==== Sys2Proof/Machine/History.lean ====
section
/-! DEFINITION. The meanings of the four history decodes (30_encoding.md R72, R73): what the query that acts on
the decode does once the history has decoded so. DEDUCED (notes/assumptions/8.md). -/

namespace Sys2Proof.Machine

open Sys2Proof Host

variable {wHist wTime : Nat}

/-- HIST.PRESSED: DEB.IS_PRESSED fires (40_debouncer.md R103); the MID field is ignored (30_encoding.md R72). -/
def execHistPressed (_mid : BitVec 3) (s : State.Of wHist wTime) (P : Params wHist wTime := Config.params wHist wTime) :
    Outcome (State.Of wHist wTime) Fault Refusal :=
  .next (withResult (.bit true) (forceDown P s))

/-- HIST.RELEASED: DEB.IS_RELEASED fires (40_debouncer.md R104); the MID field is ignored. -/
def execHistReleased (_mid : BitVec 3) (s : State.Of wHist wTime) (P : Params wHist wTime :=
  Config.params wHist wTime) :
    Outcome (State.Of wHist wTime) Fault Refusal :=
  .next (withResult (.bit true) (forceUp P s))

/-- HIST.DOWN: DEB.IS_DOWN answers true and writes nothing (40_debouncer.md R102). -/
def execHistDown (s : State.Of wHist wTime) : Outcome (State.Of wHist wTime) Fault Refusal :=
  .next (withResult (.bit true) s)

/-- HIST.UP: DEB.IS_UP answers true and writes nothing (40_debouncer.md R101). -/
def execHistUp (s : State.Of wHist wTime) : Outcome (State.Of wHist wTime) Fault Refusal :=
  .next (withResult (.bit true) s)

end Sys2Proof.Machine
end

