-- ==== Sys2Proof/Machine/LevelSensor.lean ====
section
/-! DEFINITION. The meanings of the level sensor's operations (41_level_sensor.md R120 to R124). -/

namespace Sys2Proof.Machine

open Sys2Proof Host

variable {wHist wTime : Nat}

/-- LS.UPDATE (41_level_sensor.md R120). -/
def execLsUpdate (sample : Bool) (s : State.Of wHist wTime) : Outcome (State.Of wHist wTime) Fault Refusal :=
  .next (withResult .none (lsSample sample s))

/-- LS.IS_HIGH (41_level_sensor.md R121): a pure query. -/
def execLsIsHigh (s : State.Of wHist wTime) : Outcome (State.Of wHist wTime) Fault Refusal :=
  .next (withResult (.bit s.state) s)

/-- LS.IS_LOW (41_level_sensor.md R122): a pure query. -/
def execLsIsLow (s : State.Of wHist wTime) : Outcome (State.Of wHist wTime) Fault Refusal :=
  .next (withResult (.bit !s.state) s)

/-- LS.WENT_HIGH (41_level_sensor.md R123). -/
def execLsWentHigh (s : State.Of wHist wTime) : Outcome (State.Of wHist wTime) Fault Refusal :=
  .next (withResult (.bit (wentHigh s)) (consumeEdge s))

/-- LS.WENT_LOW (41_level_sensor.md R124). -/
def execLsWentLow (s : State.Of wHist wTime) : Outcome (State.Of wHist wTime) Fault Refusal :=
  .next (withResult (.bit (wentLow s)) (consumeEdge s))

end Sys2Proof.Machine
end

