-- ==== Sys2Proof/Machine/Phases.lean ====
section
/-! DEFINITION. The fifteen phase rules (43_sequencer.md R165 to R179) and their meanings as instructions. A rule
performs its entry action each time it is evaluated (R181), issues the edge query its row names once whatever its
other conditions are (R164), and takes the first true transition of its row (R180). -/

namespace Sys2Proof.Machine

open Sys2Proof Host

variable {wHist wTime : Nat}

/-- The time latched for the tick (10_state.md R40). -/
def tickNow (s : State.Of wHist wTime) : Time wTime := s.tick.inputs.now

/-- Note the phase in the tick's `eval=` list (30_encoding.md R83). -/
def noteEvaluated (p : Phase) (s : State.Of wHist wTime) : State.Of wHist wTime :=
  s.setTick { s.tick with evaluated := s.tick.evaluated ++ [p], result := .none }

/-- A rule without `chain` ends the tick: what it wrote is evaluated in the next one (43_sequencer.md R163). -/
def endTick (s : State.Of wHist wTime) : State.Of wHist wTime := s.setSelect .script

/-- `chain`: the rule of the phase just written is evaluated in the same tick (43_sequencer.md R163). -/
def chain (s : State.Of wHist wTime) : State.Of wHist wTime := s.setSelect .phaseRegister

/-- TMR.ELAPSED of the tick compared with a threshold (42_timer_button.md R142). -/
def waitOver (threshold : Time wTime) (s : State.Of wHist wTime) : Bool := timedOut (elapsed (tickNow s) s) threshold

/-- PH.START (43_sequencer.md R165). -/
def ruleStart (s : State.Of wHist wTime) : State.Of wHist wTime :=
  endTick <| (noteEvaluated .start s).setPhase (if s.state then .powerwait0 else .poweroff2)

/-- PH.POWERWAIT0 (43_sequencer.md R166). -/
def rulePowerwait0 (s : State.Of wHist wTime) : State.Of wHist wTime :=
  endTick <| (recordTimer (tickNow s) (noteEvaluated .powerwait0 s)).setPhase .powerwait1

/-- PH.POWERWAIT1 (43_sequencer.md R167). -/
def rulePowerwait1 (P : Params wHist wTime) (s : State.Of wHist wTime) : State.Of wHist wTime :=
  let t := consumeEdge (noteEvaluated .powerwait1 s)
  endTick <|
    if wentLow s then t.setPhase .poweroff2
    else if waitOver P.tPowerwait s then t.setPhase .poweron
    else t

/-- PH.POWERON (43_sequencer.md R168). -/
def rulePoweron (s : State.Of wHist wTime) : State.Of wHist wTime :=
  endTick <| (assertEn (noteEvaluated .poweron s)).setPhase .bootwait0

/-- PH.BOOTWAIT0 (43_sequencer.md R169). -/
def ruleBootwait0 (s : State.Of wHist wTime) : State.Of wHist wTime :=
  endTick <| (recordTimer (tickNow s) (noteEvaluated .bootwait0 s)).setPhase .bootwait1

/-- PH.BOOTWAIT1 (43_sequencer.md R170). -/
def ruleBootwait1 (P : Params wHist wTime) (s : State.Of wHist wTime) : State.Of wHist wTime :=
  let t := noteEvaluated .bootwait1 s
  endTick <|
    if waitOver P.tBootwait s then t.setPhase .poweroff2
    else if s.tick.bootAsserted then t.setPhase .boot
    else t

/-- PH.BOOT (43_sequencer.md R171). -/
def ruleBoot (s : State.Of wHist wTime) : State.Of wHist wTime :=
  let t := consumeEdge (noteEvaluated .boot s)
  endTick <|
    if s.tick.shortPress || wentLow s then t.setPhase .shutdown0
    else if !s.tick.bootAsserted then t.setPhase .poweroff0
    else t

/-- PH.SHUTDOWN0 (43_sequencer.md R172). -/
def ruleShutdown0 (s : State.Of wHist wTime) : State.Of wHist wTime :=
  endTick <| (recordTimer (tickNow s) (assertShutdown (noteEvaluated .shutdown0 s))).setPhase .shutdown1

/-- PH.SHUTDOWN1 (43_sequencer.md R173). -/
def ruleShutdown1 (P : Params wHist wTime) (s : State.Of wHist wTime) : State.Of wHist wTime :=
  let t := noteEvaluated .shutdown1 s
  endTick <|
    if waitOver P.tShutdown s then t.setPhase .poweroff0
    else if !s.tick.bootAsserted then t.setPhase .poweroff0
    else t

/-- PH.POWEROFF0 (43_sequencer.md R174). -/
def rulePoweroff0 (s : State.Of wHist wTime) : State.Of wHist wTime :=
  chain <| (recordTimer (tickNow s) (deassertShutdown (noteEvaluated .poweroff0 s))).setPhase .poweroff1

/-- PH.POWEROFF1 (43_sequencer.md R175). -/
def rulePoweroff1 (P : Params wHist wTime) (s : State.Of wHist wTime) : State.Of wHist wTime :=
  let t := noteEvaluated .poweroff1 s
  endTick <|
    if waitOver P.tPoweroff s then t.setPhase .poweroff2
    else if s.tick.bootAsserted then t.setPhase .boot
    else t

/-- PH.POWEROFF2 (43_sequencer.md R176). -/
def rulePoweroff2 (s : State.Of wHist wTime) : State.Of wHist wTime :=
  endTick <| (deassertShutdown (deassertEn (noteEvaluated .poweroff2 s))).setPhase .idle0

/-- PH.IDLE0 (43_sequencer.md R177). -/
def ruleIdle0 (P : Params wHist wTime) (s : State.Of wHist wTime) : State.Of wHist wTime :=
  chain <| (requestHalt P (noteEvaluated .idle0 s)).setPhase .idle1

/-- PH.IDLE1 (43_sequencer.md R178). -/
def ruleIdle1 (s : State.Of wHist wTime) : State.Of wHist wTime :=
  chain <| (recordTimer (tickNow s) (noteEvaluated .idle1 s)).setPhase .idle2

/-- PH.IDLE2 (43_sequencer.md R179). -/
def ruleIdle2 (P : Params wHist wTime) (s : State.Of wHist wTime) : State.Of wHist wTime :=
  let t := consumeEdge (noteEvaluated .idle2 s)
  endTick <|
    if waitOver P.tIdle s then t.setPhase .idle0
    else if (s.tick.shortPress && s.state) || wentHigh s then t.setPhase .poweron
    else t

/-- Dispatch: exactly the rule that belongs to the current phase (43_sequencer.md R162). -/
def evaluatePhase (P : Params wHist wTime) (s : State.Of wHist wTime) : State.Of wHist wTime :=
  match s.phase with
  | .start => ruleStart s
  | .powerwait0 => rulePowerwait0 s
  | .powerwait1 => rulePowerwait1 P s
  | .poweron => rulePoweron s
  | .bootwait0 => ruleBootwait0 s
  | .bootwait1 => ruleBootwait1 P s
  | .boot => ruleBoot s
  | .shutdown0 => ruleShutdown0 s
  | .shutdown1 => ruleShutdown1 P s
  | .poweroff0 => rulePoweroff0 s
  | .poweroff1 => rulePoweroff1 P s
  | .poweroff2 => rulePoweroff2 s
  | .idle0 => ruleIdle0 P s
  | .idle1 => ruleIdle1 s
  | .idle2 => ruleIdle2 P s

/-- PH.START as an instruction: its rule, on the values of the latest tick (notes/assumptions/18.md). -/
def execPhStart (s : State.Of wHist wTime) : Outcome (State.Of wHist wTime) Fault Refusal := .next (ruleStart s)

/-- PH.POWERWAIT0 as an instruction. -/
def execPhPowerwait0 (s : State.Of wHist wTime) : Outcome (State.Of wHist wTime) Fault Refusal :=
  .next (rulePowerwait0 s)

/-- PH.POWERWAIT1 as an instruction. -/
def execPhPowerwait1 (s : State.Of wHist wTime) (P : Params wHist wTime := Config.params wHist wTime) :
    Outcome (State.Of wHist wTime) Fault Refusal := .next (rulePowerwait1 P s)

/-- PH.POWERON as an instruction. -/
def execPhPoweron (s : State.Of wHist wTime) : Outcome (State.Of wHist wTime) Fault Refusal := .next (rulePoweron s)

/-- PH.BOOTWAIT0 as an instruction. -/
def execPhBootwait0 (s : State.Of wHist wTime) : Outcome (State.Of wHist wTime) Fault Refusal := .next (ruleBootwait0 s)

/-- PH.BOOTWAIT1 as an instruction. -/
def execPhBootwait1 (s : State.Of wHist wTime) (P : Params wHist wTime := Config.params wHist wTime) :
    Outcome (State.Of wHist wTime) Fault Refusal := .next (ruleBootwait1 P s)

/-- PH.BOOT as an instruction. -/
def execPhBoot (s : State.Of wHist wTime) : Outcome (State.Of wHist wTime) Fault Refusal := .next (ruleBoot s)

/-- PH.SHUTDOWN0 as an instruction. -/
def execPhShutdown0 (s : State.Of wHist wTime) : Outcome (State.Of wHist wTime) Fault Refusal := .next (ruleShutdown0 s)

/-- PH.SHUTDOWN1 as an instruction. -/
def execPhShutdown1 (s : State.Of wHist wTime) (P : Params wHist wTime := Config.params wHist wTime) :
    Outcome (State.Of wHist wTime) Fault Refusal := .next (ruleShutdown1 P s)

/-- PH.POWEROFF0 as an instruction. -/
def execPhPoweroff0 (s : State.Of wHist wTime) : Outcome (State.Of wHist wTime) Fault Refusal := .next (rulePoweroff0 s)

/-- PH.POWEROFF1 as an instruction. -/
def execPhPoweroff1 (s : State.Of wHist wTime) (P : Params wHist wTime := Config.params wHist wTime) :
    Outcome (State.Of wHist wTime) Fault Refusal := .next (rulePoweroff1 P s)

/-- PH.POWEROFF2 as an instruction. -/
def execPhPoweroff2 (s : State.Of wHist wTime) : Outcome (State.Of wHist wTime) Fault Refusal := .next (rulePoweroff2 s)

/-- PH.IDLE0 as an instruction. -/
def execPhIdle0 (s : State.Of wHist wTime) (P : Params wHist wTime := Config.params wHist wTime) :
    Outcome (State.Of wHist wTime) Fault Refusal := .next (ruleIdle0 P s)

/-- PH.IDLE1 as an instruction. -/
def execPhIdle1 (s : State.Of wHist wTime) : Outcome (State.Of wHist wTime) Fault Refusal := .next (ruleIdle1 s)

/-- PH.IDLE2 as an instruction. -/
def execPhIdle2 (s : State.Of wHist wTime) (P : Params wHist wTime := Config.params wHist wTime) :
    Outcome (State.Of wHist wTime) Fault Refusal := .next (ruleIdle2 P s)

/-- PH.(reserved), phase code 15: "must treat code 15 as `refuse`" (30_encoding.md R78). -/
def execPhReserved (_s : State.Of wHist wTime) : Outcome (State.Of wHist wTime) Fault Refusal := .refused .reservedPhase

end Sys2Proof.Machine
end

