-- ==== Sys2Proof/Machine/Sequencer.lean ====
section
/-! DEFINITION. The tick (43_sequencer.md R160), the override (R161), chaining (R163) and reset
(70_reset_and_hazards.md R250). -/

namespace Sys2Proof.Machine

open Sys2Proof Host

variable {wHist wTime : Nat}

/-- Steps 1 and 2 of the tick: latch the inputs, read BOOT (43_sequencer.md R160). -/
def latchInputs (P : Params wHist wTime) (inp : TickInputs wTime) (s : State.Of wHist wTime) : State.Of wHist wTime :=
  readBoot P ((s.setTick (PerTick.begin inp)).setSelect .script)

/-- Step 3 of the tick: with the strobe, LS.UPDATE from USB, then DEB.UPDATE from POWER (43_sequencer.md R160,
20_memory.md R62). -/
def sampleSensors (s : State.Of wHist wTime) : State.Of wHist wTime :=
  if s.tick.inputs.sampleStb then
    let s1 := lsSample (pinReadUsb s) s
    debShift (pinReadPower s1) s1
  else s

/-- Step 6 of the tick: evaluate the phase's rule, and again while it ended with `chain`; the number bounds the
evaluations. -/
def evaluateChain (P : Params wHist wTime) : Nat → State.Of wHist wTime → State.Of wHist wTime
  | 0, s => s
  | n + 1, s =>
    let t := evaluatePhase P s
    if t.select = .phaseRegister then evaluateChain P n t else t

/-- Steps 1 to 5 of the tick: up to the override. -/
def beforePhases (P : Params wHist wTime) (inp : TickInputs wTime) (s : State.Of wHist wTime) : State.Of wHist wTime :=
  let s1 := sampleSensors (latchInputs P inp s)
  let s2 := buttonEvents P inp.now s1
  override s2.tick.longPress s2

/-- SEQ.TICK, one loop iteration in the order of 43_sequencer.md R160. A tick evaluates at most three phase rules
(R163). -/
def tick (P : Params wHist wTime) (inp : TickInputs wTime) (s : State.Of wHist wTime) : State.Of wHist wTime :=
  let t := evaluateChain P 3 (beforePhases P inp s)
  withResult (.outputs (tickOutputs P t)) t

/-- SEQ.TICK as an instruction. -/
def execSeqTick (inputs : TickInputs wTime) (s : State.Of wHist wTime) (P : Params wHist wTime :=
  Config.params wHist wTime) :
    Outcome (State.Of wHist wTime) Fault Refusal :=
  .next (tick P inputs s)

/-- SEQ.OVERRIDE as an instruction (43_sequencer.md R161). -/
def execSeqOverride (longPress : Bool) (s : State.Of wHist wTime) : Outcome (State.Of wHist wTime) Fault Refusal :=
  .next (withResult .none (override longPress s))

/-- SEQ.RESET as an instruction (70_reset_and_hazards.md R250). -/
def execSeqReset (s : State.Of wHist wTime) (P : Params wHist wTime := Config.params wHist wTime) :
    Outcome (State.Of wHist wTime) Fault Refusal := .next (resetCore P s)

end Sys2Proof.Machine
end

