-- ==== Sys2Proof/Machine/Timer.lean ====
section
/-! DEFINITION. The meanings of the timer unit's operations and of the button-event logic
(42_timer_button.md R140 to R146). -/

namespace Sys2Proof.Machine

open Sys2Proof Host

variable {wHist wTime : Nat}

/-- TMR.RECORD (42_timer_button.md R140). -/
def execTmrRecord (now : Time wTime) (s : State.Of wHist wTime) : Outcome (State.Of wHist wTime) Fault Refusal :=
  .next (withResult .none (recordTimer now s))

/-- TMR.ELAPSED (42_timer_button.md R142): writes nothing. -/
def execTmrElapsed (now : Time wTime) (s : State.Of wHist wTime) : Outcome (State.Of wHist wTime) Fault Refusal :=
  .next (withResult (.time (elapsed now s)) s)

/-- TMR.HELD (42_timer_button.md R144): writes nothing. -/
def execTmrHeld (now : Time wTime) (s : State.Of wHist wTime) : Outcome (State.Of wHist wTime) Fault Refusal :=
  .next (withResult (.time (held now s)) s)

/-- BTN.EVENTS (42_timer_button.md R143). -/
def execBtnEvents (now : Time wTime) (s : State.Of wHist wTime) (P : Params wHist wTime := Config.params wHist wTime) :
    Outcome (State.Of wHist wTime) Fault Refusal :=
  let t := buttonEvents P now s
  .next (withResult (.events t.tick.shortPress t.tick.longPress) t)

end Sys2Proof.Machine
end

