-- ==== Sys2Proof/Machine/Dispatch.lean ====
section
/-! DEFINITION. One arm per row of opcode_table.json: the meaning of every instruction. -/

namespace Sys2Proof.Machine

open Sys2Proof

def exec (i : Instr) (s : State) : Host.Outcome State Fault Refusal :=
  match i with
  | .debUpdate sample => Sys2Proof.Machine.execDebUpdate sample s
  | .debIsUp => Sys2Proof.Machine.execDebIsUp s
  | .debIsDown => Sys2Proof.Machine.execDebIsDown s
  | .debIsPressed => Sys2Proof.Machine.execDebIsPressed s
  | .debIsReleased => Sys2Proof.Machine.execDebIsReleased s
  | .lsUpdate sample => Sys2Proof.Machine.execLsUpdate sample s
  | .lsIsHigh => Sys2Proof.Machine.execLsIsHigh s
  | .lsIsLow => Sys2Proof.Machine.execLsIsLow s
  | .lsWentHigh => Sys2Proof.Machine.execLsWentHigh s
  | .lsWentLow => Sys2Proof.Machine.execLsWentLow s
  | .tmrRecord now => Sys2Proof.Machine.execTmrRecord now s
  | .tmrElapsed now => Sys2Proof.Machine.execTmrElapsed now s
  | .tmrHeld now => Sys2Proof.Machine.execTmrHeld now s
  | .btnEvents now => Sys2Proof.Machine.execBtnEvents now s
  | .ioReadPower => Sys2Proof.Machine.execIoReadPower s
  | .ioReadUsb => Sys2Proof.Machine.execIoReadUsb s
  | .ioReadBoot => Sys2Proof.Machine.execIoReadBoot s
  | .ioEnAssert => Sys2Proof.Machine.execIoEnAssert s
  | .ioEnDeassert => Sys2Proof.Machine.execIoEnDeassert s
  | .ioSdAssert => Sys2Proof.Machine.execIoSdAssert s
  | .ioSdDeassert => Sys2Proof.Machine.execIoSdDeassert s
  | .ioHalt => Sys2Proof.Machine.execIoHalt s
  | .seqTick inputs => Sys2Proof.Machine.execSeqTick inputs s
  | .seqOverride longPress => Sys2Proof.Machine.execSeqOverride longPress s
  | .seqReset => Sys2Proof.Machine.execSeqReset s
  | .phStart => Sys2Proof.Machine.execPhStart s
  | .phPowerwait0 => Sys2Proof.Machine.execPhPowerwait0 s
  | .phPowerwait1 => Sys2Proof.Machine.execPhPowerwait1 s
  | .phPoweron => Sys2Proof.Machine.execPhPoweron s
  | .phBootwait0 => Sys2Proof.Machine.execPhBootwait0 s
  | .phBootwait1 => Sys2Proof.Machine.execPhBootwait1 s
  | .phBoot => Sys2Proof.Machine.execPhBoot s
  | .phShutdown0 => Sys2Proof.Machine.execPhShutdown0 s
  | .phShutdown1 => Sys2Proof.Machine.execPhShutdown1 s
  | .phPoweroff0 => Sys2Proof.Machine.execPhPoweroff0 s
  | .phPoweroff1 => Sys2Proof.Machine.execPhPoweroff1 s
  | .phPoweroff2 => Sys2Proof.Machine.execPhPoweroff2 s
  | .phIdle0 => Sys2Proof.Machine.execPhIdle0 s
  | .phIdle1 => Sys2Proof.Machine.execPhIdle1 s
  | .phIdle2 => Sys2Proof.Machine.execPhIdle2 s
  | .phReserved => Sys2Proof.Machine.execPhReserved s
  | .histPressed mid => Sys2Proof.Machine.execHistPressed mid s
  | .histReleased mid => Sys2Proof.Machine.execHistReleased mid s
  | .histDown => Sys2Proof.Machine.execHistDown s
  | .histUp => Sys2Proof.Machine.execHistUp s

end Sys2Proof.Machine
end

