-- ==== Sys2Proof/Machine/Fetch.lean ====
section
/-! DEFINITION. Fetching: the CORE has no program memory (20_memory.md R50). Its next word comes from the pending
stimulus script (30_encoding.md R82), from the `phase` register (`chain`, 43_sequencer.md R163), from the `history`
register (30_encoding.md R73), or, with nothing pending, from the environment (00_scope.md R3). What runs the fetched
instruction is an argument: `exec` in Step.lean, `execAt` in Parametric.lean. -/

namespace Sys2Proof.Machine

open Sys2Proof Host

variable {wHist wTime : Nat}

/-- What runs a fetched instruction: exec, or execAt at given parameters. -/
abbrev Runner (wHist wTime : Nat) : Type :=
  Instr wTime → State.Of wHist wTime → Outcome (State.Of wHist wTime) Fault Refusal

/-- What the environment does between two steps when no script is pending: a tick with free inputs, or reset
(70_reset_and_hazards.md R250, 93_implementation_defined.md U8 to U10). -/
def environmentInstr (n : Nat) : Instr wTime :=
  if Config.resetInput n then .seqReset else .seqTick (inputsOfWord (Config.stimulus wTime n))

/-- Why a script that does not decode is refused (30_encoding.md R80). -/
def refusalOf : DecodeError → Refusal
  | .unassigned => .unassignedOperation
  | .padding => .malformedOperand
  | .truncated => .malformedOperand
  | .noEvent => .malformedOperand

/-- Run the operation at the head of the script; with no script, the environment's. -/
def runScript (P : Params wHist wTime) (run : Runner wHist wTime) (s : State.Of wHist wTime) :
    Outcome (State.Of wHist wTime) Fault Refusal :=
  match s.script with
  | [] => run (environmentInstr s.issued) (s.setIssued (s.issued + 1))
  | b :: bs =>
    match decodeAt P .op6 (b :: bs) with
    | .ok (i, rest) => run i (s.setScript rest)
    | .error e => .refused (refusalOf e)

/-- Act on the decode of the history; a history that decodes to nothing is legal and fires nothing
(30_encoding.md R79). -/
def runHistory (P : Params wHist wTime) (run : Runner wHist wTime) (s : State.Of wHist wTime) :
    Outcome (State.Of wHist wTime) Fault Refusal :=
  match decodeHistAt P s.history with
  | some i => run i s
  | none => .next s

/-- Fetch from the selected place and run; the next fetch is from the script unless the instruction chains. -/
def fetchAndRun (P : Params wHist wTime) (run : Runner wHist wTime) (s : State.Of wHist wTime) :
    Outcome (State.Of wHist wTime) Fault Refusal :=
  match s.select with
  | .script => runScript P run s
  | .phaseRegister => run s.phase.instr (s.setSelect .script)
  | .historyRegister => runHistory P run (s.setSelect .script)
  | .reservedCode => run .phReserved (s.setSelect .script)

/-- Put bytes at the head of the script and select it. -/
def placeScript (bs : List Byte) (s : State.Of wHist wTime) : State.Of wHist wTime :=
  (s.setScript (bs ++ s.script)).setSelect .script

/-- Put an instruction where its format is fetched: an operation at the head of the script, a phase rule into the
`phase` register, a history decode into the `history` register. -/
def placeInstr (i : Instr) (s : State) : State :=
  match formatOf i with
  | .op6 => placeScript (encode i) s
  | .phase4 =>
    match Phase.all.find? fun p => p.instr == i with
    | some p => (s.setPhase p).setSelect .phaseRegister
    | none => s.setSelect .reservedCode
  | .hist8 => (s.setHistory ((encode i).headD 0#8)).setSelect .historyRegister

/-- Put a table word where the next step fetches it; a word that is no instruction goes to the script as it is. -/
def placeTableWord (nbits w : Nat) (s : State) : State :=
  match decodeTableWord nbits w with
  | some i => placeInstr i s
  | none => placeScript (tableBytes w) s

end Sys2Proof.Machine
end

