-- ==== Sys2Proof/Machine/Step.lean ====
section
/-! DEFINITION. One step of the machine, and where a table word is placed for it. -/

namespace Sys2Proof.Machine

open Sys2Proof

/-- One step: fetch one instruction and run it. A tick is one step (00_scope.md R14). -/
def step (s : State) : Host.Outcome State Fault Refusal :=
  fetchAndRun Config.params exec s

/-- `s` with the table word `w` placed so that the very next step fetches and runs it. It stands for the loading of
a program from outside (notes/assumptions/6.md). -/
def State.withFetchWord (s : State) (nbits w : Nat) : State := placeTableWord nbits w s

end Sys2Proof.Machine
end

