-- ==== Sys2Proof/Machine/Environment.lean ====
section
/-! DEFINITION. What the spec says of the CORE's environment (00_scope.md R3, R17): the reference sampling cadence,
the advance of the Clock, the halt and the wake event that ends it (44_gpio.md R207, R212). The tick accepts any inputs
at any time; these definitions are the contracts that a statement may assume of the environment
(93_implementation_defined.md U3, U4, U10; notes/assumptions/7.md and 12.md). -/

namespace Sys2Proof.Machine

open Sys2Proof

variable {wHist wTime : Nat}

/-- The reference generator of `sample_stb` (92_eei_decisions.md D18): the first tick after reset, and every tick at
least `SAMPLE_PERIOD` after the last sampled one. -/
def referenceStrobe (P : Params wHist wTime) (lastSample : Option (Time wTime)) (now : Time wTime) : Bool :=
  match lastSample with
  | none => true
  | some t => P.samplePeriod ≤ timeSince now t

/-- By how much the Clock advanced from one tick to the next, modulo `2^W_TIME` (10_state.md R40). -/
def clockAdvance (before after : TickInputs wTime) : Time wTime := timeSince after.now before.now

/-! ### Edges -/

/-- The levels of the three input pins at one instant (44_gpio.md R200). -/
structure PinLevels where
  power : Bool
  usb : Bool
  boot : Bool
deriving DecidableEq, Repr

/-- The levels that a tick reads. -/
def tickLevels (inp : TickInputs wTime) : PinLevels where
  power := inp.pinPower
  usb := inp.pinUsb
  boot := inp.pinBoot

/-- The level of an input pin; outputs are not read back (44_gpio.md R200, R210). -/
def inputLevel (l : PinLevels) : Pin → Option Bool
  | .power => some l.power
  | .usb => some l.usb
  | .boot => some l.boot
  | .en => none
  | .shutdown => none

/-- An edge on a monitored pin: its level changed, in either direction (44_gpio.md R212). -/
def wakeEdge (P : Params wHist wTime) (before after : PinLevels) : Bool :=
  P.wakePins.any fun p => inputLevel before p != inputLevel after p

/-- The pins take new levels. `time` is the environment's own, in ms of real time since the halting tick latched its
inputs: the Clock may stand still in the halt (92_eei_decisions.md D20). -/
structure PinChange where
  time : Nat
  levels : PinLevels
deriving DecidableEq, Repr

/-- The times at which a monitored pin had an edge, from the given levels on. A level that changes and changes back
gives two edges (44_gpio.md R212: "any registered edge wakes the wait"). -/
def edgeTimes (P : Params wHist wTime) : PinLevels → List PinChange → List Nat
  | _, [] => []
  | l, c :: cs => if wakeEdge P l c.levels then c.time :: edgeTimes P c.levels cs else edgeTimes P c.levels cs

/-! ### The halt -/

/-- The end of a halt, and the tick after it. -/
structure HaltEnd (wTime : Nat) where
  /-- when the wait ended -/
  ends : Nat
  /-- when the next tick latched its inputs -/
  tickAt : Nat
  /-- the inputs of that tick -/
  inputs : TickInputs wTime
deriving DecidableEq, Repr

/-- The low-power wait after a tick that ended with `halt_req = 1` (44_gpio.md R207). While it lasts no tick is issued,
so nothing of the CORE's state changes; the pins do. -/
structure Halt (wTime : Nat) where
  /-- the inputs of the tick that requested it -/
  start : TickInputs wTime
  /-- when the wait itself began; an edge before it falls into the entry window (70_reset_and_hazards.md R266) -/
  begins : Nat
  /-- whether the interrupt logic keeps an edge of the entry window pending (60_exceptions.md R223) -/
  keepsPending : Bool
  /-- every change of the pins from the halting tick to the next one, in the order of time -/
  changes : List PinChange
  /-- how the halt ended, if it did (93_implementation_defined.md U4: it need not) -/
  ended : Option (HaltEnd wTime)
deriving DecidableEq, Repr

/-- The wake events of a halt: the edges on monitored pins that are not lost in the entry window (44_gpio.md R212,
60_exceptions.md R223). -/
def Halt.wakeTimes (P : Params wHist wTime) (h : Halt wTime) : List Nat :=
  (edgeTimes P (tickLevels h.start) h.changes).filter fun t => h.keepsPending || decide (h.begins ≤ t)

/-- The contract of 44_gpio.md R207: the halt ends only after a wake event. An environment that also wakes spuriously
does not keep it (R212, 92_eei_decisions.md D19). -/
def Halt.endsAfterWake (P : Params wHist wTime) (h : Halt wTime) : Bool :=
  match h.ended with
  | none => true
  | some e => (h.wakeTimes P).any (· ≤ e.ends)

/-- The fairness assumption of 44_gpio.md R212: "the next tick comes no later than some time after an edge on a
monitored pin"; `delay` is that time. It says nothing of a halt without a wake event, and it allows spurious wakes. -/
def Halt.fair (P : Params wHist wTime) (delay : Nat) (h : Halt wTime) : Bool :=
  (h.wakeTimes P).all fun w =>
    match h.ended with
    | none => false
    | some e => e.tickAt ≤ w + delay

/-- The times of a halt are in order, and the tick after it reads the levels that the pins had last. -/
def Halt.inOrder (h : Halt wTime) : Bool :=
  decide ((h.changes.map PinChange.time).Pairwise (· ≤ ·)) &&
    match h.ended with
    | none => true
    | some e => decide (h.begins ≤ e.ends) && decide (e.ends ≤ e.tickAt) && h.changes.all (·.time ≤ e.tickAt) &&
        tickLevels e.inputs == (h.changes.map PinChange.levels).getLastD (tickLevels h.start)

/-- The Clock over a halt (92_eei_decisions.md D20): with `CLOCK_RUNS_IN_HALT` it advances by all the time since the
halting tick, without it by the time spent outside the halt (70_reset_and_hazards.md R265). -/
def Halt.clockFits (P : Params wHist wTime) (h : Halt wTime) : Bool :=
  match h.ended with
  | none => true
  | some e =>
    clockAdvance h.start e.inputs ==
      BitVec.ofNat wTime (if P.clockRunsInHalt then e.tickAt else e.tickAt - (e.ends - h.begins))

/-- The halts of a run of ticks, each checked by `ok`: every tick that ends with `halt_req = 1` is followed by a halt
that starts from its inputs and ends with the next tick's, or never ends (44_gpio.md R207). -/
def haltsMeet (P : Params wHist wTime) (ok : Halt wTime → Bool) :
    State.Of wHist wTime → List (TickInputs wTime) → List (Halt wTime) → Bool
  | _, [], halts => halts.isEmpty
  | s, inp :: rest, halts =>
    let t := tick P inp s
    if t.tick.haltReq then
      match halts with
      | [] => false
      | h :: hs => h.start == inp && ok h && h.ended.map HaltEnd.inputs == rest.head? && haltsMeet P ok t rest hs
    else haltsMeet P ok t rest halts

end Sys2Proof.Machine
end

