-- ==== Sys2Proof/Machine/Parametric.lean ====
section
/-! DEFINITION. The machine at every value of the parameters of 00_scope.md R9, the widths `W_HIST` and `W_TIME` among
them (92_eei_decisions.md D1, D31). The meanings are those that Dispatch.lean calls; there the parameters are left at
their defaults, here they are given. -/

namespace Sys2Proof.Machine

open Sys2Proof Host

variable {wHist wTime : Nat}

/-- The meaning of every instruction in the machine of the given parameters. -/
def execAt (P : Params wHist wTime) (i : Instr wTime) (s : State.Of wHist wTime) :
    Outcome (State.Of wHist wTime) Fault Refusal :=
  match i with
  | .debUpdate sample => execDebUpdate sample s
  | .debIsUp => execDebIsUp s P
  | .debIsDown => execDebIsDown s P
  | .debIsPressed => execDebIsPressed s P
  | .debIsReleased => execDebIsReleased s P
  | .lsUpdate sample => execLsUpdate sample s
  | .lsIsHigh => execLsIsHigh s
  | .lsIsLow => execLsIsLow s
  | .lsWentHigh => execLsWentHigh s
  | .lsWentLow => execLsWentLow s
  | .tmrRecord now => execTmrRecord now s
  | .tmrElapsed now => execTmrElapsed now s
  | .tmrHeld now => execTmrHeld now s
  | .btnEvents now => execBtnEvents now s P
  | .ioReadPower => execIoReadPower s
  | .ioReadUsb => execIoReadUsb s
  | .ioReadBoot => execIoReadBoot s P
  | .ioEnAssert => execIoEnAssert s
  | .ioEnDeassert => execIoEnDeassert s
  | .ioSdAssert => execIoSdAssert s
  | .ioSdDeassert => execIoSdDeassert s
  | .ioHalt => execIoHalt s P
  | .seqTick inputs => execSeqTick inputs s P
  | .seqOverride longPress => execSeqOverride longPress s
  | .seqReset => execSeqReset s P
  | .phStart => execPhStart s
  | .phPowerwait0 => execPhPowerwait0 s
  | .phPowerwait1 => execPhPowerwait1 s P
  | .phPoweron => execPhPoweron s
  | .phBootwait0 => execPhBootwait0 s
  | .phBootwait1 => execPhBootwait1 s P
  | .phBoot => execPhBoot s
  | .phShutdown0 => execPhShutdown0 s
  | .phShutdown1 => execPhShutdown1 s P
  | .phPoweroff0 => execPhPoweroff0 s
  | .phPoweroff1 => execPhPoweroff1 s P
  | .phPoweroff2 => execPhPoweroff2 s
  | .phIdle0 => execPhIdle0 s P
  | .phIdle1 => execPhIdle1 s
  | .phIdle2 => execPhIdle2 s P
  | .phReserved => execPhReserved s
  | .histPressed mid => execHistPressed mid s P
  | .histReleased mid => execHistReleased mid s P
  | .histDown => execHistDown s
  | .histUp => execHistUp s

/-- One step of the machine of the given parameters. -/
def stepAt (P : Params wHist wTime) (s : State.Of wHist wTime) : Outcome (State.Of wHist wTime) Fault Refusal :=
  fetchAndRun P (execAt P) s

/-- The machine of the given parameters; `core` is the one at the defaults. -/
def coreAt (P : Params wHist wTime) : Host.Core where
  State := State.Of wHist wTime
  Fault := Fault
  Refusal := Refusal
  step := stepAt P
  reset := resetAt P

end Sys2Proof.Machine
end

