-- ==== Sys2Proof/Machine/Snapshot.lean ====
section
/-! DEFINITION. The textual forms of 30_encoding.md R81 to R83: operation names, stimulus lines, state snapshots and
per-tick results. They only print; no meaning reads them. -/

namespace Sys2Proof.Machine

open Sys2Proof

variable {wHist wTime : Nat}

/-- The phase names of 30_encoding.md R71. -/
def phaseName : Phase → String
  | .start => "START"
  | .powerwait0 => "POWERWAIT0"
  | .powerwait1 => "POWERWAIT1"
  | .poweron => "POWERON"
  | .bootwait0 => "BOOTWAIT0"
  | .bootwait1 => "BOOTWAIT1"
  | .boot => "BOOT"
  | .shutdown0 => "SHUTDOWN0"
  | .shutdown1 => "SHUTDOWN1"
  | .poweroff0 => "POWEROFF0"
  | .poweroff1 => "POWEROFF1"
  | .poweroff2 => "POWEROFF2"
  | .idle0 => "IDLE0"
  | .idle1 => "IDLE1"
  | .idle2 => "IDLE2"

/-- A bit as 0 or 1. -/
def bitText (b : Bool) : String := if b then "1" else "0"

/-- One hexadecimal digit, in capitals. -/
def hexDigit (d : BitVec 4) : String :=
  ["0", "1", "2", "3", "4", "5", "6", "7", "8", "9", "A", "B", "C", "D", "E", "F"].getD d.toNat "0"

/-- A value of `w` bits in hexadecimal, as many digits as hold it: two for a history, nine for a stimulus word, at the
default widths (30_encoding.md R82, R83). -/
def hexText {w : Nat} (v : BitVec w) : String :=
  String.join ((List.range ((w + 3) / 4)).reverse.map fun k => hexDigit (v.extractLsb' (4 * k) 4))

/-- A tick's stimulus line (30_encoding.md R82). -/
def tickLine (inp : TickInputs wTime) : String :=
  "T now=" ++ toString inp.now.toNat ++ " stb=" ++ bitText inp.sampleStb ++ " pw=" ++ bitText inp.pinPower
    ++ " usb=" ++ bitText inp.pinUsb ++ " boot=" ++ bitText inp.pinBoot

/-- The state snapshot of 30_encoding.md R83. -/
def snapshot (P : Params wHist wTime) (s : State.Of wHist wTime) : String :=
  "hist=" ++ hexText s.history ++ " st=" ++ bitText s.state ++ " last=" ++ bitText s.lastState
    ++ " phase=" ++ phaseName s.phase ++ "(" ++ toString (s.phase.codeAt P).toNat ++ ")"
    ++ " timer=" ++ toString s.phaseTimer.toNat ++ " tp=" ++ toString s.timePressed.toNat
    ++ " ign=" ++ bitText s.buttonIgnored ++ " en=" ++ bitText s.en ++ " sd=" ++ bitText s.shutdown

/-- The per-tick results of 30_encoding.md R83. -/
def tickReport (s : State.Of wHist wTime) : String :=
  "p=" ++ bitText s.tick.pressed ++ " r=" ++ bitText s.tick.released ++ " sp=" ++ bitText s.tick.shortPress
    ++ " lp=" ++ bitText s.tick.longPress ++ " halt=" ++ bitText s.tick.haltReq
    ++ " eval=" ++ ">".intercalate (s.tick.evaluated.map phaseName)

/-- The name of an instruction, as opcode_table.json spells it (30_encoding.md R74, R81). -/
def mnemonic : Instr wTime → String
  | .debUpdate _ => "DEB.UPDATE"
  | .debIsUp => "DEB.IS_UP"
  | .debIsDown => "DEB.IS_DOWN"
  | .debIsPressed => "DEB.IS_PRESSED"
  | .debIsReleased => "DEB.IS_RELEASED"
  | .lsUpdate _ => "LS.UPDATE"
  | .lsIsHigh => "LS.IS_HIGH"
  | .lsIsLow => "LS.IS_LOW"
  | .lsWentHigh => "LS.WENT_HIGH"
  | .lsWentLow => "LS.WENT_LOW"
  | .tmrRecord _ => "TMR.RECORD"
  | .tmrElapsed _ => "TMR.ELAPSED"
  | .tmrHeld _ => "TMR.HELD"
  | .btnEvents _ => "BTN.EVENTS"
  | .ioReadPower => "IO.READ_POWER"
  | .ioReadUsb => "IO.READ_USB"
  | .ioReadBoot => "IO.READ_BOOT"
  | .ioEnAssert => "IO.EN_ASSERT"
  | .ioEnDeassert => "IO.EN_DEASSERT"
  | .ioSdAssert => "IO.SD_ASSERT"
  | .ioSdDeassert => "IO.SD_DEASSERT"
  | .ioHalt => "IO.HALT"
  | .seqTick _ => "SEQ.TICK"
  | .seqOverride _ => "SEQ.OVERRIDE"
  | .seqReset => "SEQ.RESET"
  | .phStart => "PH.START"
  | .phPowerwait0 => "PH.POWERWAIT0"
  | .phPowerwait1 => "PH.POWERWAIT1"
  | .phPoweron => "PH.POWERON"
  | .phBootwait0 => "PH.BOOTWAIT0"
  | .phBootwait1 => "PH.BOOTWAIT1"
  | .phBoot => "PH.BOOT"
  | .phShutdown0 => "PH.SHUTDOWN0"
  | .phShutdown1 => "PH.SHUTDOWN1"
  | .phPoweroff0 => "PH.POWEROFF0"
  | .phPoweroff1 => "PH.POWEROFF1"
  | .phPoweroff2 => "PH.POWEROFF2"
  | .phIdle0 => "PH.IDLE0"
  | .phIdle1 => "PH.IDLE1"
  | .phIdle2 => "PH.IDLE2"
  | .phReserved => "PH.(reserved)"
  | .histPressed _ => "HIST.PRESSED"
  | .histReleased _ => "HIST.RELEASED"
  | .histDown => "HIST.DOWN"
  | .histUp => "HIST.UP"

end Sys2Proof.Machine
end

