-- ==== Sys2Proof/Safety.lean ====
section
/-! DEFINITION. What a safe run is: the invariant of 10_state.md R38, the de-energised states, and the words in
which the statements speak of runs of ticks. -/

namespace Sys2Proof.Machine

open Sys2Proof

variable {wHist wTime : Nat}

/-- The invariant of 10_state.md R38: which outputs each phase may have. -/
structure OutputsFitPhase (s : State.Of wHist wTime) : Prop where
  /-- R38 (a) -/
  shutdown_high : s.shutdown = true → s.phase = .shutdown1 ∨ s.phase = .poweroff0
  /-- R38 (b) -/
  de_energised : s.phase ∈ [Phase.start, .powerwait0, .powerwait1, .poweron, .idle0, .idle1, .idle2] →
    s.en = false ∧ s.shutdown = false
  /-- R38 (c) -/
  energised : s.phase ∈ [Phase.bootwait0, .bootwait1, .boot, .shutdown0, .shutdown1, .poweroff0, .poweroff1] →
    s.en = true
  /-- R38 (d) -/
  poweroff2_low : s.phase = .poweroff2 → s.shutdown = false
  /-- R38 (e) -/
  never_idle1 : s.phase ≠ .idle1

/-- The instructions a stimulus script is made of: ticks and resets (30_encoding.md R82). -/
def IsStimulus (i : Instr wTime) : Prop := i = .seqReset ∨ ∃ inp, i = .seqTick inp

/-- The pending script is a stimulus script, whole instructions from its head on. -/
def StimulusScript (P : Params wHist wTime) (bs : List Byte) : Prop :=
  ∃ ops : List (Instr wTime), (∀ i ∈ ops, IsStimulus i) ∧ bs = ops.flatMap (encodeAt P)

/-- The invariant of a run between ticks: the outputs fit the phase, no chain is open, and only ticks and resets
are pending. -/
structure InvAt (P : Params wHist wTime) (s : State.Of wHist wTime) : Prop where
  outputs : OutputsFitPhase s
  between_ticks : s.select = .script
  stimulus : StimulusScript P s.script

/-- The invariant of the machine at the default parameters. -/
abbrev Inv (s : State) : Prop := InvAt Config.params s

/-- The nine registers agree (10_state.md R20). -/
structure SameRegisters (s t : State.Of wHist wTime) : Prop where
  history : s.history = t.history
  state : s.state = t.state
  lastState : s.lastState = t.lastState
  phase : s.phase = t.phase
  phaseTimer : s.phaseTimer = t.phaseTimer
  timePressed : s.timePressed = t.timePressed
  buttonIgnored : s.buttonIgnored = t.buttonIgnored
  en : s.en = t.en
  shutdown : s.shutdown = t.shutdown

/-- The state after a list of ticks (00_scope.md R15: a program is a list of per-tick inputs). -/
def runTicks (P : Params wHist wTime) : List (TickInputs wTime) → State.Of wHist wTime → State.Of wHist wTime
  | [], s => s
  | inp :: rest, s => runTicks P rest (tick P inp s)

/-- The states after each tick of a list, first to last. -/
def tickTrace (P : Params wHist wTime) :
    List (TickInputs wTime) → State.Of wHist wTime → List (State.Of wHist wTime)
  | [], _ => []
  | inp :: rest, s => tick P inp s :: tickTrace P rest (tick P inp s)

/-- The phase rules of one tick, run one instruction at a time: each selected by the `phase` register, the next one
only after `chain` (43_sequencer.md R162, R163). -/
inductive PhaseRun : State → State → Prop where
  | last {s t : State} : exec s.phase.instr s = .next t → t.select = .script → PhaseRun s t
  | more {s t u : State} :
    exec s.phase.instr s = .next t → t.select = .phaseRegister → PhaseRun t u → PhaseRun s u

/-- One update of the debouncer followed by both event queries, press first (40_debouncer.md R107, 42_timer_button.md
R143): the history after them, and whether each query fired. -/
def sampleAndQuery (P : Params wHist wTime) (h : History wHist) (sample : Bool) :
    History wHist × Bool × Bool :=
  let h1 := shiftIn h sample
  let p := matchesPressed P h1
  let h2 := if p then P.debDown else h1
  let r := matchesReleased P h2
  (if r then P.debUp else h2, p, r)

/-- The events of a sample sequence, (pressed, released) after each update. -/
def debounce (P : Params wHist wTime) : History wHist → List Bool → List (Bool × Bool)
  | _, [] => []
  | h, x :: xs => (sampleAndQuery P h x).2 :: debounce P (sampleAndQuery P h x).1 xs

/-- The history at the end of a sample sequence. -/
def debounceHistory (P : Params wHist wTime) : History wHist → List Bool → History wHist
  | h, [] => h
  | h, x :: xs => debounceHistory P (sampleAndQuery P h x).1 xs

/-- The state as it would be with the Clock started `d` ms later: both time stamps and the latched `now` shifted. -/
def shiftTime (d : Time wTime) (s : State.Of wHist wTime) : State.Of wHist wTime :=
  ((s.setPhaseTimer (s.phaseTimer + d)).setTimePressed (s.timePressed + d)).setTick
    { s.tick with inputs := { s.tick.inputs with now := s.tick.inputs.now + d } }

/-- The tick inputs with the Clock `d` ms later. -/
def shiftInputs (d : Time wTime) (inp : TickInputs wTime) : TickInputs wTime := { inp with now := inp.now + d }

end Sys2Proof.Machine
end

