-- ==== Sys2Proof/Certificates/Slice0/Obligations.lean ====
section
/-! DEFINITION. The statements about the pipower CORE, from the numbered rules of spec/. Statements about an
instruction give its whole next state: what is not named in the record update is unchanged. Thresholds stand as the
numbers of 30_encoding.md R76, patterns as those of R73, and the widths are the default ones, where a statement does not
quantify over the parameters of 00_scope.md R9. -/

open Sys2Proof Sys2Proof.Machine

/-! ### Words -/

/-- A few words written out from 30_encoding.md R71, R73, R74 and R82 decode to the instructions they stand for. The
place of an operand in the bytes after the identifier is the model's choice (notes/assumptions/4.md). -/
def Obligations.EncodedWordsDecode : Prop :=
  decode .op6 [0b000011#8] = .ok (.debIsPressed, []) ∧
  decode .op6 [0b000000#8, 1#8] = .ok (.debUpdate true, []) ∧
  decode .op6 [0b001100#8, 0xFF#8] = .ok (.lsWentLow, [0xFF#8]) ∧
  decode .op6 [0b010000#8, 0x10#8, 0x04#8, 0#8, 0#8] = .ok (.tmrRecord 1040#32, []) ∧
  decode .op6 [0b100011#8] = .ok (.ioEnAssert, []) ∧
  decode .op6 [0b101000#8, 0xCE#8, 0x5D#8, 0#8, 0#8, 0#8] =
    .ok (.seqTick ⟨1500#32, true, true, true, false⟩, []) ∧
  decode .phase4 [0b0110#8] = .ok (.phBoot, []) ∧
  decode .hist8 [0b11010000#8] = .ok (.histPressed 0b010#3, []) ∧
  decode .hist8 [0b00111111#8] = .ok (.histReleased 0b111#3, [])

/-- Decoding undoes encoding, for every instruction with every operand; and for the operations and the phases whatever
the width of the time base and the phase codes are, if the codes tell the phases apart (00_scope.md R9,
notes/assumptions/1.md; the operand bytes, notes/assumptions/4.md). -/
def Obligations.DecodeInvertsEncode : Prop :=
  (∀ (i : Instr) (rest : List Byte), decode (formatOf i) (encode i ++ rest) = .ok (i, rest)) ∧
  ∀ (wHist wTime : Nat) (P : Params wHist wTime) (i : Instr wTime) (rest : List Byte),
    formatOf i = .op6 ∨ (formatOf i = .phase4 ∧ P.codesTellPhasesApart = true) →
      decodeAt P (formatOf i) (encodeAt P i ++ rest) = .ok (i, rest)

/-- Encoding undoes decoding: every word has one meaning in its format, and no bit of it is dropped; for the operations
whatever the width of the time base is. -/
def Obligations.EncodeInvertsDecode : Prop :=
  (∀ (f : Format) (bs rest : List Byte) (i : Instr),
    decode f bs = .ok (i, rest) → formatOf i = f ∧ bs = encode i ++ rest) ∧
  ∀ (wHist wTime : Nat) (P : Params wHist wTime) (bs rest : List Byte) (i : Instr wTime),
    decodeAt P .op6 bs = .ok (i, rest) → formatOf i = .op6 ∧ bs = encodeAt P i ++ rest

/-- The four history decodes (30_encoding.md R73) as bit patterns, as the masked comparisons of the debouncer, and
counted over the 256 histories. -/
def Obligations.HistoryDecodesArePatterns : Prop :=
  (∀ (h : Byte) (mid : BitVec 3),
    (decodeHist h = some (.histPressed mid) ↔ h = 0b11#2 ++ mid ++ 0b000#3) ∧
    (decodeHist h = some (.histReleased mid) ↔ h = 0b00#2 ++ mid ++ 0b111#3)) ∧
  (∀ h : Byte,
    (decodeHist h = some .histDown ↔ h = 0x00#8) ∧ (decodeHist h = some .histUp ↔ h = 0xFF#8) ∧
    (matchesPressed Config.params h = true ↔ ∃ mid, decodeHist h = some (.histPressed mid)) ∧
    (matchesReleased Config.params h = true ↔ ∃ mid, decodeHist h = some (.histReleased mid)) ∧
    (settledDown Config.params h = true ↔ decodeHist h = some .histDown) ∧
    (settledUp Config.params h = true ↔ decodeHist h = some .histUp)) ∧
  (((List.range 256).map (BitVec.ofNat 8)).countP fun h => (decodeHist h).isNone) = 238

/-- The reserved phase code (30_encoding.md R78): no phase has it, no phase decodes from it, and the instruction is
refused in every state. -/
def Obligations.ReservedPhaseIsRefused : Prop :=
  (∀ p : Phase, p.code ≠ 0b1111#4 ∧ Phase.ofCode p.code = some p) ∧ Phase.ofCode 0b1111#4 = none ∧
  (∀ s : State, exec .phReserved s = .refused .reservedPhase) ∧
  (∀ s : State, s.select = .reservedCode → step s = .refused .reservedPhase)

/-- An identifier that no operation has (30_encoding.md R80) is refused by name when a step reads it at the head of the
script. R80 says only that such an identifier names no operation. That a step refuses it is the model's choice by
93_implementation_defined.md U2 (notes/assumptions/17.md), and that the script holds an identifier in a byte, so that a
byte above 63 is unassigned too, is the model's byte layout (notes/assumptions/4.md). -/
def Obligations.UnassignedOperationIsRefused : Prop :=
  ∀ (s : State) (b : Byte) (rest : List Byte), s.select = .script → s.script = b :: rest →
    (∀ i : Instr, formatOf i = .op6 → (encode i).head? ≠ some b) → step s = .refused .unassignedOperation

/-! ### Steps -/

/-- A step runs the operation that the pending script decodes to, and moves past its bytes. -/
def Obligations.StepRunsTheDecodedOperation : Prop :=
  ∀ (s : State) (i : Instr) (rest : List Byte), s.select = .script → decode .op6 s.script = .ok (i, rest) →
    step s = exec i (s.setScript rest)

/-- After `chain` a step runs the rule that the `phase` register selects (43_sequencer.md R162, R163); with the
history selected it runs the history's decode, and does nothing when there is none (30_encoding.md R73, R79). -/
def Obligations.StepRunsTheRegisterSelectedRule : Prop :=
  ∀ s : State,
    (s.select = .phaseRegister →
      decode .phase4 [s.phase.code.setWidth 8] = .ok (s.phase.instr, []) ∧
      step s = exec s.phase.instr (s.setSelect .script)) ∧
    (s.select = .historyRegister → ∀ i, decode .hist8 [s.history] = .ok (i, []) →
      step s = exec i (s.setSelect .script)) ∧
    (s.select = .historyRegister → decode .hist8 [s.history] = .error .noEvent →
      step s = .next (s.setSelect .script))

/-- With no script pending the environment issues a tick or reset, and the step has a next state whatever it issues
(the model's choice, notes/assumptions/6.md and 7.md). -/
def Obligations.StepWithoutScriptIsTheEnvironments : Prop :=
  ∀ s : State, s.select = .script → s.script = [] →
    ∃ t, step s = .next t ∧
      ((∃ inp, exec (.seqTick inp) (s.setIssued (s.issued + 1)) = .next t) ∨
        exec .seqReset (s.setIssued (s.issued + 1)) = .next t)

/-- No legal instruction faults or is refused, in any state (60_exceptions.md R220). -/
def Obligations.LegalInstructionsComplete : Prop :=
  ∀ (i : Instr) (s : State), i.wellFormed = true → ∃ t, exec i s = .next t

/-! ### Reset -/

/-- SEQ.RESET leaves the reset values of 10_state.md R37, from any state; State.reset has them too. The values but
`phase = START` are the spec's own choice; that the script stays is the model's (notes/assumptions/15.md). -/
def Obligations.ResetLeavesTheResetValues : Prop :=
  SameRegisters State.reset (State.Of.mk 0xFF#8 false false .start 0#32 0#32 false false false
    State.reset.tick .script [] 0) ∧
  ∀ s : State, ∃ t, exec .seqReset s = .next t ∧ SameRegisters t State.reset ∧ t.tick.haltReq = false ∧
    t.select = .script ∧ t.script = s.script ∧ t.issued = s.issued

/-! ### The debouncer -/

/-- DEB.UPDATE (40_debouncer.md R100): bit 7 is lost, every other bit moves up, the sample becomes bit 0; nothing
else changes; and so in a history of any width `W_HIST` (00_scope.md R9), whose top bit is lost. -/
def Obligations.DebUpdateShiftsInTheSample : Prop :=
  (∀ (s : State) (x : Bool), ∃ h : Byte,
    exec (.debUpdate x) s = .next { s with history := h, tick := { s.tick with result := .none } } ∧
    h.getLsbD 0 = x ∧ ∀ k, k < 7 → h.getLsbD (k + 1) = s.history.getLsbD k) ∧
  ∀ (wHist wTime : Nat) (P : Params wHist wTime) (s : State.Of wHist wTime) (x : Bool), ∃ h : History wHist,
    execAt P (.debUpdate x) s = .next { s with history := h, tick := { s.tick with result := .none } } ∧
    (0 < wHist → h.getLsbD 0 = x) ∧ ∀ k, k + 1 < wHist → h.getLsbD (k + 1) = s.history.getLsbD k

/-- DEB.IS_UP and DEB.IS_DOWN (40_debouncer.md R101, R102) answer whether the history is 0xFF, 0x00 and write no
register. -/
def Obligations.DebLevelQueriesArePure : Prop :=
  ∀ s : State,
    exec .debIsUp s = .next { s with tick := { s.tick with result := .bit (s.history == 0xFF#8) } } ∧
    exec .debIsDown s = .next { s with tick := { s.tick with result := .bit (s.history == 0x00#8) } }

/-- DEB.IS_PRESSED and DEB.IS_RELEASED (40_debouncer.md R103, R104) fire exactly on `11xxx000` and `00xxx111`, force
the history to 0x00 and 0xFF when they do, and change nothing but their result when they do not. -/
def Obligations.DebEventQueriesFireAndForce : Prop :=
  ∀ s : State,
    ((∃ mid : BitVec 3, s.history = 0b11#2 ++ mid ++ 0b000#3) →
      exec .debIsPressed s = .next { s with history := 0x00#8, tick := { s.tick with result := .bit true } }) ∧
    ((∀ mid : BitVec 3, s.history ≠ 0b11#2 ++ mid ++ 0b000#3) →
      exec .debIsPressed s = .next { s with tick := { s.tick with result := .bit false } }) ∧
    ((∃ mid : BitVec 3, s.history = 0b00#2 ++ mid ++ 0b111#3) →
      exec .debIsReleased s = .next { s with history := 0xFF#8, tick := { s.tick with result := .bit true } }) ∧
    ((∀ mid : BitVec 3, s.history ≠ 0b00#2 ++ mid ++ 0b111#3) →
      exec .debIsReleased s = .next { s with tick := { s.tick with result := .bit false } })

/-- The four history decodes as instructions: each does what the query that acts on it does, given a history that
decodes so (30_encoding.md R73; the reading is the model's, notes/assumptions/8.md). -/
def Obligations.HistoryDecodesActAsTheirQueries : Prop :=
  ∀ s : State,
    (∀ mid : BitVec 3,
      exec (.histPressed mid) s = .next { s with history := 0x00#8, tick := { s.tick with result := .bit true } } ∧
      exec (.histReleased mid) s = .next { s with history := 0xFF#8, tick := { s.tick with result := .bit true } }) ∧
    exec .histDown s = .next { s with tick := { s.tick with result := .bit true } } ∧
    exec .histUp s = .next { s with tick := { s.tick with result := .bit true } } ∧
    ∀ i, decodeHist s.history = some i →
      exec i s = exec (match i with
        | .histPressed _ => .debIsPressed
        | .histReleased _ => .debIsReleased
        | .histDown => .debIsDown
        | _ => .debIsUp) s

/-- Eight updates with the same sample bring any history to settled (40_debouncer.md R100, corner cases). -/
def Obligations.EightEqualSamplesSettle : Prop :=
  ∀ (h : Byte) (x : Bool), (List.replicate 8 x).foldl shiftIn h = if x then 0xFF#8 else 0x00#8

/-- Pulses from a settled level, with the queries after every update (40_debouncer.md R107, R108): one opposite sample
fires nothing, two fire one event of the opposite kind on the 8th update, `k >= 3` fire at the 3rd update and at
update `k + 3`. -/
def Obligations.PulseEventsByLength : Prop :=
  ∀ m k : Nat,
    debounce Config.params 0xFF#8 (List.replicate 1 false ++ List.replicate m true)
      = (List.range (1 + m)).map (fun _ => (false, false)) ∧
    debounce Config.params 0x00#8 (List.replicate 1 true ++ List.replicate m false)
      = (List.range (1 + m)).map (fun _ => (false, false)) ∧
    debounce Config.params 0xFF#8 (List.replicate 2 false ++ List.replicate m true)
      = (List.range (2 + m)).map (fun j => (false, j == 7)) ∧
    debounce Config.params 0x00#8 (List.replicate 2 true ++ List.replicate m false)
      = (List.range (2 + m)).map (fun j => (j == 7, false)) ∧
    debounce Config.params 0xFF#8 (List.replicate (k + 3) false ++ List.replicate m true)
      = (List.range (k + 3 + m)).map (fun j => (j == 2, j == k + 5)) ∧
    debounce Config.params 0x00#8 (List.replicate (k + 3) true ++ List.replicate m false)
      = (List.range (k + 3 + m)).map (fun j => (j == k + 5, j == 2))

/-- Bounce (40_debouncer.md R112): when the history's newest sample is high and the input then stays low, a press event
fires, between the 3rd and the 6th low sample, exactly when two consecutive of the five newest samples were high; in
every case the history ends settled down. -/
def Obligations.BounceLosesThePressWithoutTwoHighs : Prop :=
  ∀ (h : Byte) (m : Nat), h.getLsbD 0 = true →
    ((∃ j : Nat, (debounce Config.params h (List.replicate (m + 8) false))[j]? = some (true, false)) ↔
      ∃ j : Nat, j < 4 ∧ h.getLsbD j = true ∧ h.getLsbD (j + 1) = true) ∧
    (∀ (j : Nat) (e : Bool), (debounce Config.params h (List.replicate (m + 8) false))[j]? = some (true, e) →
      2 ≤ j ∧ j ≤ 5) ∧
    debounceHistory Config.params h (List.replicate (m + 8) false) = 0x00#8

/-! ### The level sensor -/

/-- LS.UPDATE, LS.IS_HIGH, LS.IS_LOW (41_level_sensor.md R120, R121, R122). -/
def Obligations.LevelSensorUpdatesAndReads : Prop :=
  ∀ (s : State) (x : Bool),
    exec (.lsUpdate x) s = .next { s with state := x, tick := { s.tick with result := .none } } ∧
    exec .lsIsHigh s = .next { s with tick := { s.tick with result := .bit (s.state == true) } } ∧
    exec .lsIsLow s = .next { s with tick := { s.tick with result := .bit (s.state == false) } }

/-- LS.WENT_HIGH and LS.WENT_LOW (41_level_sensor.md R123, R124): the result compares the two registers, and
`last_state` becomes `state` whether or not the query fires. -/
def Obligations.EdgeQueriesFireAndConsume : Prop :=
  ∀ s : State,
    exec .lsWentHigh s = .next { s with
      lastState := s.state
      tick := { s.tick with result := .bit (decide (s.state = true ∧ s.lastState = false)) } } ∧
    exec .lsWentLow s = .next { s with
      lastState := s.state
      tick := { s.tick with result := .bit (decide (s.state = false ∧ s.lastState = true)) } }

/-- One latch serves both directions (41_level_sensor.md R126, R127): after either edge query, either query answers
false; and an edge and its opposite between two queries cancel. -/
def Obligations.EdgeLatchIsShared : Prop :=
  ∀ (s : State) (q r : Instr), q ∈ [Instr.lsWentHigh, .lsWentLow] → r ∈ [Instr.lsWentHigh, .lsWentLow] →
    (∃ t u, exec q s = .next t ∧ exec r t = .next u ∧ u.tick.result = .bit false) ∧
    ∃ t u v w, exec q s = .next t ∧ exec (.lsUpdate !t.state) t = .next u ∧
      exec (.lsUpdate t.state) u = .next v ∧ exec r v = .next w ∧ w.tick.result = .bit false

/-! ### Timer and button events -/

/-- TMR.RECORD, TMR.ELAPSED, TMR.HELD (42_timer_button.md R140, R142, R144). That the hold is measured from
`time_pressed`, and so TMR.HELD itself, is the spec's own decision D9. -/
def Obligations.TimerOperations : Prop :=
  ∀ (s : State) (now : Time),
    exec (.tmrRecord now) s = .next { s with phaseTimer := now, tick := { s.tick with result := .none } } ∧
    exec (.tmrElapsed now) s = .next { s with tick := { s.tick with result := .time (now - s.phaseTimer) } } ∧
    exec (.tmrHeld now) s = .next { s with tick := { s.tick with result := .time (now - s.timePressed) } }

/-- The subtraction is the true number of milliseconds whenever that is below `2^W_TIME`, over a wrap too
(42_timer_button.md R141), for every width of the time base; a wait's test is false at its threshold and true one
millisecond later (R142 and the table of R148, by 90_conflicts.md C2). -/
def Obligations.TimeSubtractionIsExact : Prop :=
  ∀ (wTime a d T : Nat), d < 2 ^ wTime → T < 2 ^ wTime →
    (timeSince (BitVec.ofNat wTime (a + d)) (BitVec.ofNat wTime a)).toNat = d ∧
    (timedOut (timeSince (BitVec.ofNat wTime (a + d)) (BitVec.ofNat wTime a)) (BitVec.ofNat wTime T) = true ↔
      T + 1 ≤ d)

/-- BTN.EVENTS (42_timer_button.md R143, R145, R146) on the three kinds of history: a press is stamped, a release ends
the soak-up or is a short press, otherwise only a long hold raises a pulse. The algorithm is the spec's own (D9). -/
def Obligations.ButtonEventsByHistory : Prop :=
  ∀ (s : State) (now : Time),
    (s.history &&& 0xC7#8 = 0xC0#8 →
      exec (.btnEvents now) s = .next { s with
        history := 0x00#8
        timePressed := now
        tick := { s.tick with
          pressed := true, released := false, shortPress := false, longPress := false,
          result := .events false false } }) ∧
    (s.history &&& 0xC7#8 = 0x07#8 →
      let sp := decide (s.buttonIgnored = false ∧ (now - s.timePressed).toNat < 2000)
      exec (.btnEvents now) s = .next { s with
        history := 0xFF#8
        buttonIgnored := false
        tick := { s.tick with
          pressed := false, released := true, shortPress := sp, longPress := false, result := .events sp false } }) ∧
    (s.history &&& 0xC7#8 ≠ 0xC0#8 → s.history &&& 0xC7#8 ≠ 0x07#8 →
      let lp := decide (s.history = 0x00#8 ∧ s.buttonIgnored = false ∧ 2000 ≤ (now - s.timePressed).toNat)
      exec (.btnEvents now) s = .next { s with
        tick := { s.tick with
          pressed := false, released := false, shortPress := false, longPress := lp, result := .events false lp } })

/-- The two pulses never come together, nor do the two events, in any tick (10_state.md R33, 42_timer_button.md R147 a
and c). -/
def Obligations.PulsesExcludeEachOther : Prop :=
  ∀ (inp : TickInputs 32) (s : State),
    ¬((tick Config.params inp s).tick.shortPress = true ∧ (tick Config.params inp s).tick.longPress = true) ∧
    ¬((tick Config.params inp s).tick.pressed = true ∧ (tick Config.params inp s).tick.released = true)

/-- While a long press is soaked up and no release event comes, no tick raises `long_press` again
(42_timer_button.md R146, 60_exceptions.md R227). -/
def Obligations.LongPressOncePerHold : Prop :=
  ∀ (wHist wTime : Nat) (P : Params wHist wTime) (inps : List (TickInputs wTime))
    (s : State.Of wHist wTime), s.buttonIgnored = true →
    (∀ t ∈ tickTrace P inps s, t.tick.released = false) →
    ∀ t ∈ tickTrace P inps s, t.tick.longPress = false ∧ t.buttonIgnored = true

/-! ### GPIO -/

/-- The three pin reads (44_gpio.md R201, R202, R203): the levels of the tick, BOOT as "asserted" when low. That the
result of IO.READ_BOOT is `boot_asserted`, not the raw level that vector V36 shows, is the model's reading
(notes/assumptions/11.md, DEDUCED). -/
def Obligations.PinReads : Prop :=
  ∀ s : State,
    exec .ioReadPower s = .next { s with tick := { s.tick with result := .bit s.tick.inputs.pinPower } } ∧
    exec .ioReadUsb s = .next { s with tick := { s.tick with result := .bit s.tick.inputs.pinUsb } } ∧
    exec .ioReadBoot s = .next { s with tick := { s.tick with
      bootAsserted := !s.tick.inputs.pinBoot, result := .bit !s.tick.inputs.pinBoot } }

/-- The four latch writes (44_gpio.md R205, R206, R208, R209): each writes its own latch and no other register; a pin is
driven at its latch's value (R204, 10_state.md R43), with both outputs active high. That EN is active high is the spec's
own choice (92_eei_decisions.md D6), not a rule of its source. -/
def Obligations.LatchWrites : Prop :=
  ∀ s : State,
    exec .ioEnAssert s = .next { s with en := true, tick := { s.tick with result := .none } } ∧
    exec .ioEnDeassert s = .next { s with en := false, tick := { s.tick with result := .none } } ∧
    exec .ioSdAssert s = .next { s with shutdown := true, tick := { s.tick with result := .none } } ∧
    exec .ioSdDeassert s = .next { s with shutdown := false, tick := { s.tick with result := .none } } ∧
    tickOutputs Config.params s = { enPin := s.en, shutdownPin := s.shutdown, haltReq := s.tick.haltReq }

/-- IO.HALT (44_gpio.md R207) raises the request and changes no register; with `HALT_ENABLE` false it does not even
raise the request. -/
def Obligations.HaltIsARequestOnly : Prop :=
  (∀ s : State, exec .ioHalt s = .next { s with tick := { s.tick with haltReq := true, result := .none } }) ∧
  ∀ (wHist wTime : Nat) (P : Params wHist wTime) (s : State.Of wHist wTime), SameRegisters (requestHalt P s) s ∧
    (P.haltEnable = false → requestHalt P s = s) ∧ (P.haltEnable = true → (requestHalt P s).tick.haltReq = true)

/-! ### The phase rules -/

/-- PH.START (43_sequencer.md R165). -/
def Obligations.PhaseStart : Prop :=
  ∀ s : State,
    exec .phStart s = .next { s with
      phase := if s.state = true then .powerwait0 else .poweroff2
      select := .script
      tick := { s.tick with evaluated := s.tick.evaluated ++ [.start], result := .none } }

/-- PH.POWERWAIT0, PH.BOOTWAIT0 and PH.IDLE1 (43_sequencer.md R166, R169, R178) record the timer and pass; PH.IDLE1
chains. That a rule issued alone chains by selecting the phase register, so that the next step evaluates PH.IDLE2, is
the model's rendering (notes/assumptions/10.md, DEDUCED). -/
def Obligations.PhasesThatOnlyRecord : Prop :=
  ∀ s : State,
    exec .phPowerwait0 s = .next { s with
      phaseTimer := s.tick.inputs.now
      phase := .powerwait1
      select := .script
      tick := { s.tick with evaluated := s.tick.evaluated ++ [.powerwait0], result := .none } } ∧
    exec .phBootwait0 s = .next { s with
      phaseTimer := s.tick.inputs.now
      phase := .bootwait1
      select := .script
      tick := { s.tick with evaluated := s.tick.evaluated ++ [.bootwait0], result := .none } } ∧
    exec .phIdle1 s = .next { s with
      phaseTimer := s.tick.inputs.now
      phase := .idle2
      select := .phaseRegister
      tick := { s.tick with evaluated := s.tick.evaluated ++ [.idle1], result := .none } }

/-- PH.POWERWAIT1 (43_sequencer.md R167): a fall of USB wins over the timeout; the edge query is always issued. -/
def Obligations.PhasePowerwait1 : Prop :=
  ∀ s : State,
    exec .phPowerwait1 s = .next { s with
      lastState := s.state
      phase :=
        if s.state = false ∧ s.lastState = true then .poweroff2
        else if 1000 < (s.tick.inputs.now - s.phaseTimer).toNat then .poweron
        else s.phase
      select := .script
      tick := { s.tick with evaluated := s.tick.evaluated ++ [.powerwait1], result := .none } }

/-- PH.POWERON and PH.POWEROFF2 (43_sequencer.md R168, R176): the phases that write EN. -/
def Obligations.PhasesThatWriteEn : Prop :=
  ∀ s : State,
    exec .phPoweron s = .next { s with
      en := true
      phase := .bootwait0
      select := .script
      tick := { s.tick with evaluated := s.tick.evaluated ++ [.poweron], result := .none } } ∧
    exec .phPoweroff2 s = .next { s with
      en := false
      shutdown := false
      phase := .idle0
      select := .script
      tick := { s.tick with evaluated := s.tick.evaluated ++ [.poweroff2], result := .none } }

/-- PH.BOOTWAIT1 (43_sequencer.md R170): the timeout wins over a BOOT assertion. -/
def Obligations.PhaseBootwait1 : Prop :=
  ∀ s : State,
    exec .phBootwait1 s = .next { s with
      phase :=
        if 30000 < (s.tick.inputs.now - s.phaseTimer).toNat then .poweroff2
        else if s.tick.bootAsserted = true then .boot
        else s.phase
      select := .script
      tick := { s.tick with evaluated := s.tick.evaluated ++ [.bootwait1], result := .none } }

/-- PH.BOOT (43_sequencer.md R171): a shutdown request wins over a released BOOT; no timeout; the edge query is
always issued. -/
def Obligations.PhaseBoot : Prop :=
  ∀ s : State,
    exec .phBoot s = .next { s with
      lastState := s.state
      phase :=
        if s.tick.shortPress = true ∨ (s.state = false ∧ s.lastState = true) then .shutdown0
        else if s.tick.bootAsserted = false then .poweroff0
        else s.phase
      select := .script
      tick := { s.tick with evaluated := s.tick.evaluated ++ [.boot], result := .none } }

/-- PH.SHUTDOWN0 and PH.SHUTDOWN1 (43_sequencer.md R172, R173). -/
def Obligations.PhasesShutdown : Prop :=
  ∀ s : State,
    exec .phShutdown0 s = .next { s with
      shutdown := true
      phaseTimer := s.tick.inputs.now
      phase := .shutdown1
      select := .script
      tick := { s.tick with evaluated := s.tick.evaluated ++ [.shutdown0], result := .none } } ∧
    exec .phShutdown1 s = .next { s with
      phase :=
        if 30000 < (s.tick.inputs.now - s.phaseTimer).toNat ∨ s.tick.bootAsserted = false then .poweroff0
        else s.phase
      select := .script
      tick := { s.tick with evaluated := s.tick.evaluated ++ [.shutdown1], result := .none } }

/-- PH.POWEROFF0 and PH.POWEROFF1 (43_sequencer.md R174, R175); PH.POWEROFF0 chains. The spec evaluates PH.POWEROFF1 in
the same tick; that the rule issued alone leaves the phase register selected for the next step is the model's rendering
(notes/assumptions/10.md, DEDUCED). Inside a tick both are one step (TickEvaluatesOneChain). -/
def Obligations.PhasesPoweroff : Prop :=
  ∀ s : State,
    exec .phPoweroff0 s = .next { s with
      shutdown := false
      phaseTimer := s.tick.inputs.now
      phase := .poweroff1
      select := .phaseRegister
      tick := { s.tick with evaluated := s.tick.evaluated ++ [.poweroff0], result := .none } } ∧
    exec .phPoweroff1 s = .next { s with
      phase :=
        if 30000 < (s.tick.inputs.now - s.phaseTimer).toNat then .poweroff2
        else if s.tick.bootAsserted = true then .boot
        else s.phase
      select := .script
      tick := { s.tick with evaluated := s.tick.evaluated ++ [.poweroff1], result := .none } }

/-- PH.IDLE0 (43_sequencer.md R177) raises the halt request, changes no register but `phase`, and chains; with
`HALT_ENABLE` false it only writes `phase` and chains. That the rule issued alone chains by selecting the phase register
is the model's rendering (notes/assumptions/10.md, DEDUCED). -/
def Obligations.PhaseIdle0 : Prop :=
  ∀ s : State,
    exec .phIdle0 s = .next { s with
      phase := .idle1
      select := .phaseRegister
      tick := { s.tick with haltReq := true, evaluated := s.tick.evaluated ++ [.idle0], result := .none } } ∧
    ∀ P : Params 8 32, P.haltEnable = false → ruleIdle0 P s = { s with
      phase := .idle1
      select := .phaseRegister
      tick := { s.tick with evaluated := s.tick.evaluated ++ [.idle0], result := .none } }

/-- PH.IDLE2 (43_sequencer.md R179): the timeout wins over a wake reason; the edge query is always issued. -/
def Obligations.PhaseIdle2 : Prop :=
  ∀ s : State,
    exec .phIdle2 s = .next { s with
      lastState := s.state
      phase :=
        if 5000 < (s.tick.inputs.now - s.phaseTimer).toNat then .idle0
        else if (s.tick.shortPress = true ∧ s.state = true) ∨ (s.state = true ∧ s.lastState = false) then .poweron
        else s.phase
      select := .script
      tick := { s.tick with evaluated := s.tick.evaluated ++ [.idle2], result := .none } }

/-- Every write of `phase` by a phase rule is an edge of the graph of 43_sequencer.md R182, or the phase stays, which
only the wait phases do. -/
def Obligations.PhaseRulesFollowTheGraph : Prop :=
  ∀ (wHist wTime : Nat) (P : Params wHist wTime) (s : State.Of wHist wTime),
    (evaluatePhase P s).phase ∈ (match s.phase with
      | .start => [Phase.powerwait0, .poweroff2]
      | .powerwait0 => [.powerwait1]
      | .powerwait1 => [.poweroff2, .poweron, .powerwait1]
      | .poweron => [.bootwait0]
      | .bootwait0 => [.bootwait1]
      | .bootwait1 => [.poweroff2, .boot, .bootwait1]
      | .boot => [.shutdown0, .poweroff0, .boot]
      | .shutdown0 => [.shutdown1]
      | .shutdown1 => [.poweroff0, .shutdown1]
      | .poweroff0 => [.poweroff1]
      | .poweroff1 => [.poweroff2, .boot, .poweroff1]
      | .poweroff2 => [.idle0]
      | .idle0 => [.idle1]
      | .idle1 => [.idle2]
      | .idle2 => [.idle0, .poweron, .idle2])

/-! ### The override -/

/-- SEQ.OVERRIDE (43_sequencer.md R161, 60_exceptions.md R226): on `long_press` the trap writes `phase` and
`button_ignored` and saves nothing; without it nothing happens. -/
def Obligations.OverrideWritesPhaseAndFlag : Prop :=
  ∀ s : State,
    exec (.seqOverride true) s = .next { s with
      phase := .poweroff2, buttonIgnored := true, tick := { s.tick with result := .none } } ∧
    exec (.seqOverride false) s = .next { s with tick := { s.tick with result := .none } }

/-- A tick that raises `long_press`, in whatever phase (43_sequencer.md R161, 60_exceptions.md R226): PH.POWEROFF2 is
the one phase evaluated, the tick ends in IDLE0 with both outputs de-asserted and the flag set, and the replaced
phase's entry action and edge query did not happen. -/
def Obligations.OverrideTickDeEnergises : Prop :=
  ∀ (wHist wTime : Nat) (P : Params wHist wTime) (inp : TickInputs wTime) (s : State.Of wHist wTime),
    (tick P inp s).tick.longPress = true →
    (tick P inp s).phase = .idle0 ∧ (tick P inp s).en = false ∧ (tick P inp s).shutdown = false ∧
    (tick P inp s).buttonIgnored = true ∧ (tick P inp s).tick.evaluated = [.poweroff2] ∧
    (tick P inp s).tick.haltReq = false ∧ (tick P inp s).phaseTimer = s.phaseTimer ∧
    (tick P inp s).lastState = s.lastState

/-! ### The tick -/

/-- SEQ.TICK completes in every state, and is the sequence of its operations in the order of 43_sequencer.md R160, each
run as an instruction of its own, with the phase rules run one by one as R162 and R163 say. -/
def Obligations.TickIsItsOperations : Prop :=
  ∀ (inp : TickInputs 32) (s : State),
    ∃ s1 s2 s3 s4 s5 t u : State,
      exec .ioReadBoot ((s.setTick (PerTick.begin inp)).setSelect .script) = .next s1 ∧
      (inp.sampleStb = true →
        exec (.lsUpdate inp.pinUsb) s1 = .next s2 ∧ exec (.debUpdate inp.pinPower) s2 = .next s3) ∧
      (inp.sampleStb = false → s3 = s1) ∧
      exec (.btnEvents inp.now) s3 = .next s4 ∧
      exec (.seqOverride s4.tick.longPress) s4 = .next s5 ∧
      PhaseRun s5 t ∧
      exec (.seqTick inp) s = .next u ∧
      u = { t with tick := { t.tick with
        result := .outputs { enPin := t.en, shutdownPin := t.shutdown, haltReq := t.tick.haltReq } } }

/-- Chaining (43_sequencer.md R163): a tick without an override evaluates the phase it started in and at most two
more, only along the two chains of the spec, a tick with one evaluates POWEROFF2 alone, and no chain is left open. -/
def Obligations.TickEvaluatesOneChain : Prop :=
  ∀ (wHist wTime : Nat) (P : Params wHist wTime) (inp : TickInputs wTime) (s : State.Of wHist wTime),
    (tick P inp s).select = .script ∧
    (tick P inp s).tick.evaluated =
      (if (tick P inp s).tick.longPress = true then [.poweroff2]
       else match s.phase with
        | .poweroff0 => [.poweroff0, .poweroff1]
        | .idle0 => [.idle0, .idle1, .idle2]
        | .idle1 => [.idle1, .idle2]
        | p => [p])

/-- Without the strobe a tick does not depend on the POWER and USB levels (10_state.md R42, 20_memory.md R62). -/
def Obligations.UnsampledPinsDoNotMatter : Prop :=
  ∀ (wHist wTime : Nat) (P : Params wHist wTime) (inp : TickInputs wTime) (pw usb : Bool)
    (s : State.Of wHist wTime), inp.sampleStb = false →
    SameRegisters (tick P { inp with pinPower := pw, pinUsb := usb } s) (tick P inp s) ∧
    (tick P { inp with pinPower := pw, pinUsb := usb } s).tick.result = (tick P inp s).tick.result

/-- `short_press` is read by PH.BOOT and PH.IDLE2 only (10_state.md R33, 70_reset_and_hazards.md R260): in every other
phase the rule does the same with the pulse as without. -/
def Obligations.ShortPressMattersInTwoPhases : Prop :=
  ∀ (wHist wTime : Nat) (P : Params wHist wTime) (s : State.Of wHist wTime) (sp : Bool),
    s.phase ≠ .boot → s.phase ≠ .idle2 →
    evaluatePhase P (s.setTick { s.tick with shortPress := sp })
      = (evaluatePhase P s).setTick { (evaluatePhase P s).tick with shortPress := sp }

/-- `HALT_ENABLE` decides the halt request and nothing else (44_gpio.md R207, 43_sequencer.md R177): over any ticks the
nine registers are the same for both values. -/
def Obligations.HaltEnableLeavesRegisters : Prop :=
  ∀ (wHist wTime : Nat) (P : Params wHist wTime) (b : Bool) (inps : List (TickInputs wTime))
    (s : State.Of wHist wTime),
    SameRegisters (runTicks { P with haltEnable := b } inps s) (runTicks P inps s)

/-- EN and SHUTDOWN hold between their writers (10_state.md R30, R31, 44_gpio.md R210): a tick that evaluates no phase
that writes a latch leaves it. -/
def Obligations.LatchesHoldBetweenWriters : Prop :=
  ∀ (wHist wTime : Nat) (P : Params wHist wTime) (inp : TickInputs wTime) (s : State.Of wHist wTime),
    ((tick P inp s).en ≠ s.en → ∃ p ∈ (tick P inp s).tick.evaluated, p = .poweron ∨ p = .poweroff2) ∧
    ((tick P inp s).shutdown ≠ s.shutdown →
      ∃ p ∈ (tick P inp s).tick.evaluated, p = .shutdown0 ∨ p = .poweroff0 ∨ p = .poweroff2)

/-- Every shutdown request is a rising edge of SHUTDOWN (44_gpio.md R211), in a state whose outputs fit its phase. -/
def Obligations.ShutdownRequestIsARisingEdge : Prop :=
  ∀ (wHist wTime : Nat) (P : Params wHist wTime) (inp : TickInputs wTime) (s : State.Of wHist wTime),
    OutputsFitPhase s →
    .shutdown0 ∈ (tick P inp s).tick.evaluated → s.shutdown = false ∧ (tick P inp s).shutdown = true

/-- The halt is requested by ticks that start in IDLE0 only, with both outputs de-asserted (44_gpio.md R214, 10_state.md
R38 b), in a state whose outputs fit its phase. -/
def Obligations.HaltIsRequestedDeEnergised : Prop :=
  ∀ (wHist wTime : Nat) (P : Params wHist wTime) (inp : TickInputs wTime) (s : State.Of wHist wTime),
    OutputsFitPhase s → (tick P inp s).tick.haltReq = true →
    s.phase = .idle0 ∧ (tick P inp s).en = false ∧ (tick P inp s).shutdown = false

/-- From POWEROFF2 a tick ends in IDLE0 with both outputs de-asserted; the next one, if it raises no `long_press`, ends
in IDLE2, or in POWERON with the level sensor high (43_sequencer.md R184). -/
def Obligations.PoweroffReachesIdleInTwoTicks : Prop :=
  ∀ (wHist wTime : Nat) (P : Params wHist wTime) (i j : TickInputs wTime) (s : State.Of wHist wTime),
    s.phase = .poweroff2 →
    (tick P i s).phase = .idle0 ∧ (tick P i s).en = false ∧ (tick P i s).shutdown = false ∧
    ((tick P j (tick P i s)).tick.longPress = false →
      (tick P j (tick P i s)).phase = .idle2 ∨
      ((tick P j (tick P i s)).phase = .poweron ∧ (tick P j (tick P i s)).state = true))

/-- The first ticks after reset (70_reset_and_hazards.md R252), at the default parameters. With USB low in the first
tick, or with the first tick not sampled (R254 b: PH.START then reads `state = 0`), the machine takes the idle cycle.
The clause about the third tick, which ends in POWERON when the level sensor is high by then, rests on `last_state = 0`
at reset: a value the spec chose (92_eei_decisions.md D3, 93_implementation_defined.md U6; notes/assumptions/2.md), with
`last_state = 1` that rise would be missed (R263). -/
def Obligations.FirstTicksAfterReset : Prop :=
  ∀ i j k : TickInputs 32,
    (i.sampleStb = true ∧ i.pinUsb = true →
      (runTicks Config.params [i] State.reset).phase = .powerwait0 ∧
      (runTicks Config.params [i, j] State.reset).phase = .powerwait1 ∧
      (runTicks Config.params [i, j] State.reset).phaseTimer = j.now) ∧
    (i.sampleStb = false ∨ i.pinUsb = false →
      (runTicks Config.params [i] State.reset).phase = .poweroff2 ∧
      (runTicks Config.params [i, j] State.reset).phase = .idle0 ∧
      (runTicks Config.params [i, j] State.reset).en = false ∧
      (runTicks Config.params [i, j] State.reset).shutdown = false ∧
      (runTicks Config.params [i, j, k] State.reset).tick.haltReq = true ∧
      (runTicks Config.params [i, j, k] State.reset).phaseTimer = k.now ∧
      (runTicks Config.params [i, j, k] State.reset).phase =
        if (runTicks Config.params [i, j, k] State.reset).state = true then .poweron else .idle2)

/-! ### The environment and the halt -/

/-- The wake event (44_gpio.md R212). An edge on a monitored pin in the halt counts in either direction, even one that
has changed back before the next tick: under the fairness assumption a tick comes within `delay` of it (an edge in the
entry window before the halt begins counts if the environment keeps it pending, 70_reset_and_hazards.md R266). An
environment that keeps the contract of R207 ends a halt only after an edge that counts: one that is not lost in the
entry window (60_exceptions.md R223). A tick from IDLE2 that finds no event, as after a spurious wake, is harmless:
the machine stays in IDLE2 or times out into IDLE0, and both outputs stay; one that sees USB risen, before the
timeout, goes to POWERON. That the fairness assumption is in force is the model's choice of the option R212 gives, and
that an edge that comes back counts is its reading of "any registered edge" (notes/assumptions/12.md). -/
def Obligations.WakeEventEndsTheHalt : Prop :=
  ∀ (wHist wTime : Nat) (P : Params wHist wTime),
    (∀ (h : Halt wTime) (delay : Nat) (pre post : List PinChange) (c d : PinChange) (p : Pin),
      PinChange.mk 0 (tickLevels h.start) :: h.changes = pre ++ c :: d :: post →
      p ∈ P.wakePins → inputLevel c.levels p ≠ inputLevel d.levels p →
      (h.keepsPending = true ∨ h.begins ≤ d.time) → h.fair P delay = true →
      ∃ e, h.ended = some e ∧ e.tickAt ≤ d.time + delay) ∧
    (∀ (h : Halt wTime) (e : HaltEnd wTime), h.endsAfterWake P = true → h.ended = some e →
      ∃ (pre post : List PinChange) (c d : PinChange) (p : Pin),
        PinChange.mk 0 (tickLevels h.start) :: h.changes = pre ++ c :: d :: post ∧
        p ∈ P.wakePins ∧ inputLevel c.levels p ≠ inputLevel d.levels p ∧
        (h.keepsPending = true ∨ h.begins ≤ d.time) ∧ d.time ≤ e.ends) ∧
    (∀ (inp : TickInputs wTime) (s : State.Of wHist wTime), s.phase = .idle2 →
      (tick P inp s).tick.longPress = false → (tick P inp s).tick.shortPress = false →
      ((tick P inp s).state = false ∨ s.lastState = true) →
      (tick P inp s).phase = (if P.tIdle < inp.now - s.phaseTimer then .idle0 else .idle2) ∧
      (tick P inp s).en = s.en ∧ (tick P inp s).shutdown = s.shutdown) ∧
    (∀ (inp : TickInputs wTime) (s : State.Of wHist wTime), s.phase = .idle2 →
      (tick P inp s).tick.longPress = false → inp.sampleStb = true → inp.pinUsb = true → s.lastState = false →
      ¬ P.tIdle < inp.now - s.phaseTimer → (tick P inp s).phase = .poweron)

/-! ### Invariants and whole-machine properties -/

/-- The state after reset satisfies the invariant. -/
def Obligations.ResetSatisfiesInvariant : Prop := Inv State.reset

/-- Every step from a state of the invariant has a next state, and it satisfies the invariant (10_state.md R38,
60_exceptions.md R220): the outputs fit the phase after every tick and reset, whatever the stimulus; and so in the
machine of any parameters. -/
def Obligations.StepKeepsInvariant : Prop :=
  (∀ s : State, Inv s → ∃ t, step s = .next t ∧ Inv t) ∧
  ∀ (wHist wTime : Nat) (P : Params wHist wTime) (s : State.Of wHist wTime),
    InvAt P s → ∃ t, stepAt P s = .next t ∧ InvAt P t

/-- 10_state.md R38 for every parameter and every sequence of ticks from reset. -/
def Obligations.OutputsFitPhaseAfterAnyTicks : Prop :=
  ∀ (wHist wTime : Nat) (P : Params wHist wTime) (inps : List (TickInputs wTime)),
    OutputsFitPhase (runTicks P inps (resetAt P))

/-- All uses of `now` are differences (70_reset_and_hazards.md R254 c): shifting the Clock and both time stamps by the
same amount changes nothing else, over any sequence of ticks. -/
def Obligations.OnlyTimeDifferencesMatter : Prop :=
  ∀ (wHist wTime : Nat) (P : Params wHist wTime) (d : Time wTime) (inps : List (TickInputs wTime))
    (s : State.Of wHist wTime),
    runTicks P (inps.map (shiftInputs d)) (shiftTime d s) = shiftTime d (runTicks P inps s)

/-- The reset value of `phase_timer` is unobservable: the phases that read it (10_state.md R27) are entered, by the
graph of 43_sequencer.md R182, only from a phase that has recorded it, so after any ticks from reset all other state is
the same whatever it was. -/
def Obligations.PhaseTimerAtResetIsUnobservable : Prop :=
  ∀ (wHist wTime : Nat) (P : Params wHist wTime) (x : Time wTime) (inps : List (TickInputs wTime)),
    (runTicks P inps ((resetAt P).setPhaseTimer x)).setPhaseTimer 0#wTime
      = (runTicks P inps (resetAt P)).setPhaseTimer 0#wTime

/-- A stimulus script runs as its lines say (30_encoding.md R82): the script of a list of tick lines takes the machine,
one step a line, to the state those ticks give. -/
def Obligations.ScriptRunsItsLines : Prop :=
  ∀ (inps : List (TickInputs 32)) (s : State), s.select = .script →
    Host.Core.run core inps.length (s.setScript (scriptBytes (inps.map ScriptLine.tick)))
      = .next ((runTicks Config.params inps s).setScript [])

/-! ### The parameters -/

/-- The machine takes the parameters of 00_scope.md R9, at any widths `W_HIST` and `W_TIME`. That exec, step and reset
are the machine at the defaults is the model's choice (notes/assumptions/1.md). In the machine of any parameters every
legal instruction completes, a step runs the decoded operation, and each parameter acts where its rule reads it:
`HIST_RESET` at reset (10_state.md R37), the patterns and the settled histories in the queries (40_debouncer.md R101
to R104), `T_LONG_PRESS` at a release and in a hold (42_timer_button.md R145, R146, R148), the five timeouts in their
phases (R148; 43_sequencer.md R167, R170, R173, R175, R179), `HALT_ENABLE` in IO.HALT and PH.IDLE0 (44_gpio.md R207,
43_sequencer.md R177), `BOOT_ACTIVE` (44_gpio.md R203; that it decides the result of IO.READ_BOOT too is
notes/assumptions/11.md, DEDUCED), `EN_ACTIVE` and `SD_ACTIVE` (R204), and `PHASE_CODE` in the words of the phases, if
the codes tell the phases apart (30_encoding.md R71; notes/assumptions/1.md, DEDUCED). PH.IDLE0 issued alone chains by
selecting the phase register (notes/assumptions/10.md, DEDUCED). The last three act in the environment only:
`WAKE_PINS` in the wake event (R212), `SAMPLE_PERIOD` in the reference strobe (92_eei_decisions.md D18),
`CLOCK_RUNS_IN_HALT` in the Clock's advance over a halt (D20; the form is the model's, notes/assumptions/12.md). -/
def Obligations.MachineTakesItsParameters : Prop :=
  (∀ (i : Instr) (s : State), exec i s = execAt Config.params i s) ∧
  (∀ s : State, step s = stepAt Config.params s) ∧
  State.reset = resetAt Config.params ∧
  ∀ (wHist wTime : Nat) (P : Params wHist wTime) (s : State.Of wHist wTime),
    (∀ i : Instr wTime, i.wellFormed = true → ∃ t, execAt P i s = .next t) ∧
    (∀ (i : Instr wTime) (rest : List Byte), s.select = .script → decodeAt P .op6 s.script = .ok (i, rest) →
      stepAt P s = execAt P i (s.setScript rest)) ∧
    (resetAt P).history = P.histReset ∧
    execAt P .debIsUp s = .next { s with tick := { s.tick with result := .bit (s.history == P.debUp) } } ∧
    execAt P .debIsDown s = .next { s with tick := { s.tick with result := .bit (s.history == P.debDown) } } ∧
    (s.history &&& P.debMask = P.debPressed →
      execAt P .debIsPressed s = .next { s with history := P.debDown, tick := { s.tick with result := .bit true } }) ∧
    (s.history &&& P.debMask ≠ P.debPressed →
      execAt P .debIsPressed s = .next { s with tick := { s.tick with result := .bit false } }) ∧
    (s.history &&& P.debMask = P.debReleased →
      execAt P .debIsReleased s = .next { s with history := P.debUp, tick := { s.tick with result := .bit true } }) ∧
    (s.history &&& P.debMask ≠ P.debReleased →
      execAt P .debIsReleased s = .next { s with tick := { s.tick with result := .bit false } }) ∧
    (∀ now : Time wTime, s.history &&& P.debMask ≠ P.debPressed → s.history &&& P.debMask ≠ P.debReleased →
      let lp := decide (s.history = P.debDown ∧ s.buttonIgnored = false ∧ P.tLongPress ≤ now - s.timePressed)
      execAt P (.btnEvents now) s = .next { s with
        tick := { s.tick with
          pressed := false, released := false, shortPress := false, longPress := lp, result := .events false lp } }) ∧
    (∀ now : Time wTime, s.history &&& P.debMask ≠ P.debPressed → s.history &&& P.debMask = P.debReleased →
      let sp := decide (s.buttonIgnored = false ∧ now - s.timePressed < P.tLongPress)
      let lp := decide (P.debUp = P.debDown ∧ P.tLongPress ≤ now - s.timePressed)
      execAt P (.btnEvents now) s = .next { s with
        history := P.debUp
        buttonIgnored := false
        tick := { s.tick with
          pressed := false, released := true, shortPress := sp, longPress := lp, result := .events sp lp } }) ∧
    (∃ t, execAt P .phPowerwait1 s = .next t ∧ t.phase =
      if s.state = false ∧ s.lastState = true then .poweroff2
      else if P.tPowerwait < s.tick.inputs.now - s.phaseTimer then .poweron
      else s.phase) ∧
    (∃ t, execAt P .phBootwait1 s = .next t ∧ t.phase =
      if P.tBootwait < s.tick.inputs.now - s.phaseTimer then .poweroff2
      else if s.tick.bootAsserted = true then .boot
      else s.phase) ∧
    (∃ t, execAt P .phShutdown1 s = .next t ∧ t.phase =
      if P.tShutdown < s.tick.inputs.now - s.phaseTimer ∨ s.tick.bootAsserted = false then .poweroff0
      else s.phase) ∧
    (∃ t, execAt P .phPoweroff1 s = .next t ∧ t.phase =
      if P.tPoweroff < s.tick.inputs.now - s.phaseTimer then .poweroff2
      else if s.tick.bootAsserted = true then .boot
      else s.phase) ∧
    (∃ t, execAt P .phIdle2 s = .next t ∧ t.phase =
      if P.tIdle < s.tick.inputs.now - s.phaseTimer then .idle0
      else if (s.tick.shortPress = true ∧ s.state = true) ∨ (s.state = true ∧ s.lastState = false) then .poweron
      else s.phase) ∧
    execAt P .ioHalt s = .next { s with tick := { s.tick with
      haltReq := P.haltEnable || s.tick.haltReq
      result := .none } } ∧
    execAt P .phIdle0 s = .next { s with
      phase := .idle1
      select := .phaseRegister
      tick := { s.tick with
        haltReq := P.haltEnable || s.tick.haltReq
        evaluated := s.tick.evaluated ++ [.idle0]
        result := .none } } ∧
    execAt P .ioReadBoot s = .next { s with tick := { s.tick with
      bootAsserted := s.tick.inputs.pinBoot == P.bootActive
      result := .bit (s.tick.inputs.pinBoot == P.bootActive) } } ∧
    tickOutputs P s =
      { enPin := s.en == P.enActive, shutdownPin := s.shutdown == P.sdActive, haltReq := s.tick.haltReq } ∧
    (P.codesTellPhasesApart = true → ∀ p : Phase,
      decodeAt P .phase4 [(P.phaseCodes.getD p.index 0b1111#4).setWidth 8] = .ok (p.instr, [])) ∧
    (s.select = .phaseRegister → stepAt P s = execAt P s.phase.instr (s.setSelect .script)) ∧
    (∀ before after : PinLevels, wakeEdge P before after = true ↔
      ∃ p ∈ P.wakePins, inputLevel before p ≠ inputLevel after p) ∧
    (∀ now last : Time wTime, referenceStrobe P none now = true ∧
      (referenceStrobe P (some last) now = true ↔ P.samplePeriod ≤ now - last)) ∧
    (∀ (h : Halt wTime) (e : HaltEnd wTime), h.ended = some e →
      (h.clockFits P = true ↔ e.inputs.now - h.start.now =
        BitVec.ofNat wTime (if P.clockRunsInHalt = true then e.tickAt else e.tickAt - (e.ends - h.begins))))
end

