-- ==== Sys2Proof/Laws/Decode.lean ====
section
/-! SUPPORT. What the readers and writers of operands do: each reader inverts its writer, and reads nothing else. -/

namespace Sys2Proof

variable {wHist wTime : Nat}

theorem bytesToNat_natToBytes (k n : Nat) : bytesToNat (natToBytes k n) = n % 256 ^ k := by
  induction k generalizing n with
  | zero => simp [natToBytes, bytesToNat, Nat.mod_one]
  | succ k ih =>
    simp only [natToBytes, bytesToNat, ih, BitVec.toNat_ofNat]
    rw [show 256 ^ (k + 1) = 256 * 256 ^ k by rw [Nat.pow_succ, Nat.mul_comm], Nat.mod_mul]

theorem natToBytes_bytesToNat (bs : List Byte) : natToBytes bs.length (bytesToNat bs) = bs := by
  induction bs with
  | nil => rfl
  | cons b bs ih =>
    have hb := b.isLt
    simp only [List.length_cons, natToBytes, bytesToNat]
    rw [show (b.toNat + 256 * bytesToNat bs) / 256 = bytesToNat bs by omega, ih]
    congr 1
    apply BitVec.eq_of_toNat_eq
    simp
    omega

theorem inputsOfWord_stimulusWord (inp : TickInputs wTime) : inputsOfWord (stimulusWord inp) = inp := by
  rcases inp with ⟨now, a, b, c, d⟩
  have h := now.isLt
  have hp : 2 ^ (wTime + 4) = 16 * 2 ^ wTime := by rw [Nat.pow_add]; omega
  have ha := a.toNat_le; have hb := b.toNat_le; have hc := c.toNat_le; have hd := d.toNat_le
  have hbit : ∀ x : Bool, decide (x.toNat = 1) = x := by decide
  simp only [inputsOfWord, stimulusWord, TickInputs.mk.injEq, BitVec.getLsbD_ofNat, BitVec.toNat_ofNat,
    Nat.testBit_eq_decide_div_mod_eq]
  rw [Nat.mod_eq_of_lt (by omega)]
  refine ⟨?_, ?_, ?_, ?_, ?_⟩
  · rw [show (now.toNat * 2 ^ 4 + a.toNat * 2 ^ 3 + b.toNat * 2 ^ 2 + c.toNat * 2 ^ 1 + d.toNat) / 2 ^ 4 = now.toNat by
      omega, BitVec.ofNat_toNat, BitVec.setWidth_eq]
  · rw [show (now.toNat * 2 ^ 4 + a.toNat * 2 ^ 3 + b.toNat * 2 ^ 2 + c.toNat * 2 ^ 1 + d.toNat) / 2 ^ 3 % 2 = a.toNat by
      omega, hbit, decide_eq_true (by omega), Bool.true_and]
  · rw [show (now.toNat * 2 ^ 4 + a.toNat * 2 ^ 3 + b.toNat * 2 ^ 2 + c.toNat * 2 ^ 1 + d.toNat) / 2 ^ 2 % 2 = b.toNat by
      omega, hbit, decide_eq_true (by omega), Bool.true_and]
  · rw [show (now.toNat * 2 ^ 4 + a.toNat * 2 ^ 3 + b.toNat * 2 ^ 2 + c.toNat * 2 ^ 1 + d.toNat) / 2 ^ 1 % 2 = c.toNat by
      omega, hbit, decide_eq_true (by omega), Bool.true_and]
  · rw [show (now.toNat * 2 ^ 4 + a.toNat * 2 ^ 3 + b.toNat * 2 ^ 2 + c.toNat * 2 ^ 1 + d.toNat) / 2 ^ 0 % 2 = d.toNat by
      omega, hbit, decide_eq_true (by omega), Bool.true_and]

theorem stimulusWord_inputsOfWord (w : BitVec (wTime + 4)) : stimulusWord (inputsOfWord w) = w := by
  apply BitVec.eq_of_toNat_eq
  have h := w.isLt
  have hp : 2 ^ (wTime + 4) = 16 * 2 ^ wTime := by rw [Nat.pow_add]; omega
  have hd : ∀ n, (decide (n % 2 = 1)).toNat = n % 2 := by
    intro n
    by_cases h : n % 2 = 1 <;> simp [h]
    omega
  simp only [inputsOfWord, stimulusWord, BitVec.toNat_ofNat, BitVec.getLsbD, Nat.testBit_eq_decide_div_mod_eq, hd]
  rw [Nat.mod_eq_of_lt (show w.toNat / 2 ^ 4 < 2 ^ wTime by omega), Nat.mod_eq_of_lt (by omega)]
  omega

theorem readBit_bitBytes (b : Bool) (rest : List Byte) : readBit (bitBytes b ++ rest) = .ok (b, rest) := by
  cases b <;> rfl

theorem length_natToBytes (k n : Nat) : (natToBytes k n).length = k := by
  induction k generalizing n with
  | zero => rfl
  | succ k ih => simp [natToBytes, ih]

/-- So many bytes hold so many bits. -/
theorem le_bytesFor (w : Nat) : 2 ^ w ≤ 256 ^ bytesFor w := by
  rw [show (256 : Nat) = 2 ^ 8 from rfl, ← Nat.pow_mul]
  exact Nat.pow_le_pow_right (by omega) (by simp only [bytesFor]; omega)

theorem readBits_bitsBytes {w : Nat} (v : BitVec w) (rest : List Byte) :
    readBits w (bitsBytes v ++ rest) = .ok (v, rest) := by
  have h := v.isLt
  have hl := length_natToBytes (bytesFor w) v.toNat
  have hn : bytesToNat (natToBytes (bytesFor w) v.toNat) = v.toNat := by
    rw [bytesToNat_natToBytes, Nat.mod_eq_of_lt (Nat.lt_of_lt_of_le h (le_bytesFor w))]
  simp [readBits, hn, h, bitsBytes, hl]

theorem readTime_timeBytes (t : Time wTime) (rest : List Byte) : readTime (timeBytes t ++ rest) = .ok (t, rest) :=
  readBits_bitsBytes t rest

theorem readInputs_inputsBytes (inp : TickInputs wTime) (rest : List Byte) :
    readInputs (inputsBytes inp ++ rest) = .ok (inp, rest) := by
  simp [readInputs, inputsBytes, readBits_bitsBytes, Except.map, inputsOfWord_stimulusWord]

theorem readBit_ok {bs rest : List Byte} {b : Bool} (h : readBit bs = .ok (b, rest)) : bs = bitBytes b ++ rest := by
  unfold readBit at h
  split at h
  · cases h
  · split at h
    · cases h; simp_all [bitBytes]
    · split at h <;> cases h; simp_all [bitBytes]

theorem readBits_ok {w : Nat} {bs rest : List Byte} {v : BitVec w} (h : readBits w bs = .ok (v, rest)) :
    bs = bitsBytes v ++ rest := by
  unfold readBits at h
  split at h
  · rename_i hl
    simp only at h
    split at h <;> cases h
    rename_i hlt
    have hb := natToBytes_bytesToNat (bs.take (bytesFor w))
    rw [List.length_take, Nat.min_eq_left hl] at hb
    rw [bitsBytes, BitVec.toNat_ofNat, Nat.mod_eq_of_lt hlt, hb, List.take_append_drop]
  · cases h

theorem readTime_ok {bs rest : List Byte} {t : Time wTime} (h : readTime bs = .ok (t, rest)) :
    bs = timeBytes t ++ rest := readBits_ok h

theorem readInputs_ok {bs rest : List Byte} {inp : TickInputs wTime} (h : readInputs bs = .ok (inp, rest)) :
    bs = inputsBytes inp ++ rest := by
  unfold readInputs at h
  cases hr : readBits (wTime + 4) bs with
  | error e => rw [hr] at h; cases h
  | ok r =>
    rw [hr] at h
    cases h
    rw [inputsBytes, stimulusWord_inputsOfWord]
    exact readBits_ok hr

/-- A byte whose operation is found stands in the table beside it. -/
theorem op6Rows_mem {b : Byte} {form : OperandForm wTime} (h : op6Rows.lookup b = some form) :
    (b, form) ∈ op6Rows := by
  have key : ∀ l : List (Byte × OperandForm wTime), l.lookup b = some form → (b, form) ∈ l := by
    intro l
    induction l with
    | nil => intro h; simp at h
    | cons p l ih =>
      intro h
      rcases p with ⟨x, y⟩
      simp only [List.lookup_cons] at h
      split at h
      · rename_i hx
        simp at hx h
        subst hx h
        simp
      · exact List.mem_cons_of_mem _ (ih h)
  exact key _ h

/-- No two rows of the operation table have one identifier. -/
theorem op6Rows_nodup : ((op6Rows (wTime := wTime)).map Prod.fst).Nodup := by
  simp only [op6Rows, List.map_cons, List.map_nil]
  decide

/-- Every phase rule's instruction is fetched through a phase code. -/
@[simp] theorem formatOf_instr (p : Phase) : formatOf (p.instr : Instr wTime) = .phase4 := by cases p <;> rfl

/-- A phase rule's byte is its phase code. -/
theorem encodeAt_instr (P : Params wHist wTime) (p : Phase) : encodeAt P p.instr = [(p.codeAt P).setWidth 8] := by
  cases p <;> rfl

theorem encode_instr (p : Phase) : encode p.instr = [p.code.setWidth 8] := encodeAt_instr _ p

/-- Histories that match a default pattern, field by field (30_encoding.md R72, R73). -/
theorem patternWith_pressed (mid : BitVec 3) :
    patternWith Config.params Config.params.debPressed mid = 0b11#2 ++ mid ++ 0b000#3 := by
  revert mid; decide
theorem patternWith_released (mid : BitVec 3) :
    patternWith Config.params Config.params.debReleased mid = 0b00#2 ++ mid ++ 0b111#3 := by
  revert mid; decide

/-- The codes are distinct, and each gives back its phase (30_encoding.md R71). -/
@[simp] theorem ofCode_code (p : Phase) : Phase.ofCode p.code = some p := by cases p <;> decide

/-! ### The default parameters -/

theorem decode_eq (f : Format) (bs : List Byte) : decode f bs = decodeAt Config.params f bs := rfl
theorem encode_eq (i : Instr) : encode i = encodeAt Config.params i := rfl
theorem decodeHist_eq (h : History) : decodeHist h = decodeHistAt Config.params h := rfl
theorem scriptBytes_eq (lines : List (ScriptLine 32)) : scriptBytes lines = scriptBytesAt Config.params lines := rfl

end Sys2Proof
end

