-- ==== Sys2Proof/Laws/State.lean ====
section
/-! SUPPORT. What each register write changes and what it leaves: one lemma per field per update. -/

namespace Sys2Proof.Machine

variable {wHist wTime : Nat} (s : State.Of wHist wTime)

/-! ### `history <- v` -/

@[simp] theorem State.Of.setHistory_history (v : History wHist) : (s.setHistory v).history = v := rfl
@[simp] theorem State.Of.setHistory_state (v : History wHist) : (s.setHistory v).state = s.state := rfl
@[simp] theorem State.Of.setHistory_lastState (v : History wHist) : (s.setHistory v).lastState = s.lastState := rfl
@[simp] theorem State.Of.setHistory_phase (v : History wHist) : (s.setHistory v).phase = s.phase := rfl
@[simp] theorem State.Of.setHistory_phaseTimer (v : History wHist) : (s.setHistory v).phaseTimer = s.phaseTimer := rfl
@[simp] theorem State.Of.setHistory_timePressed (v : History wHist) : (s.setHistory v).timePressed = s.timePressed :=
  rfl
@[simp] theorem State.Of.setHistory_buttonIgnored (v : History wHist) :
    (s.setHistory v).buttonIgnored = s.buttonIgnored := rfl
@[simp] theorem State.Of.setHistory_en (v : History wHist) : (s.setHistory v).en = s.en := rfl
@[simp] theorem State.Of.setHistory_shutdown (v : History wHist) : (s.setHistory v).shutdown = s.shutdown := rfl
@[simp] theorem State.Of.setHistory_tick (v : History wHist) : (s.setHistory v).tick = s.tick := rfl
@[simp] theorem State.Of.setHistory_select (v : History wHist) : (s.setHistory v).select = s.select := rfl
@[simp] theorem State.Of.setHistory_script (v : History wHist) : (s.setHistory v).script = s.script := rfl
@[simp] theorem State.Of.setHistory_issued (v : History wHist) : (s.setHistory v).issued = s.issued := rfl

/-! ### `state <- v` -/

@[simp] theorem State.Of.setState_history (v : Bool) : (s.setState v).history = s.history := rfl
@[simp] theorem State.Of.setState_state (v : Bool) : (s.setState v).state = v := rfl
@[simp] theorem State.Of.setState_lastState (v : Bool) : (s.setState v).lastState = s.lastState := rfl
@[simp] theorem State.Of.setState_phase (v : Bool) : (s.setState v).phase = s.phase := rfl
@[simp] theorem State.Of.setState_phaseTimer (v : Bool) : (s.setState v).phaseTimer = s.phaseTimer := rfl
@[simp] theorem State.Of.setState_timePressed (v : Bool) : (s.setState v).timePressed = s.timePressed := rfl
@[simp] theorem State.Of.setState_buttonIgnored (v : Bool) : (s.setState v).buttonIgnored = s.buttonIgnored := rfl
@[simp] theorem State.Of.setState_en (v : Bool) : (s.setState v).en = s.en := rfl
@[simp] theorem State.Of.setState_shutdown (v : Bool) : (s.setState v).shutdown = s.shutdown := rfl
@[simp] theorem State.Of.setState_tick (v : Bool) : (s.setState v).tick = s.tick := rfl
@[simp] theorem State.Of.setState_select (v : Bool) : (s.setState v).select = s.select := rfl
@[simp] theorem State.Of.setState_script (v : Bool) : (s.setState v).script = s.script := rfl
@[simp] theorem State.Of.setState_issued (v : Bool) : (s.setState v).issued = s.issued := rfl

/-! ### `lastState <- v` -/

@[simp] theorem State.Of.setLastState_history (v : Bool) : (s.setLastState v).history = s.history := rfl
@[simp] theorem State.Of.setLastState_state (v : Bool) : (s.setLastState v).state = s.state := rfl
@[simp] theorem State.Of.setLastState_lastState (v : Bool) : (s.setLastState v).lastState = v := rfl
@[simp] theorem State.Of.setLastState_phase (v : Bool) : (s.setLastState v).phase = s.phase := rfl
@[simp] theorem State.Of.setLastState_phaseTimer (v : Bool) : (s.setLastState v).phaseTimer = s.phaseTimer := rfl
@[simp] theorem State.Of.setLastState_timePressed (v : Bool) : (s.setLastState v).timePressed = s.timePressed := rfl
@[simp] theorem State.Of.setLastState_buttonIgnored (v : Bool) : (s.setLastState v).buttonIgnored = s.buttonIgnored :=
  rfl
@[simp] theorem State.Of.setLastState_en (v : Bool) : (s.setLastState v).en = s.en := rfl
@[simp] theorem State.Of.setLastState_shutdown (v : Bool) : (s.setLastState v).shutdown = s.shutdown := rfl
@[simp] theorem State.Of.setLastState_tick (v : Bool) : (s.setLastState v).tick = s.tick := rfl
@[simp] theorem State.Of.setLastState_select (v : Bool) : (s.setLastState v).select = s.select := rfl
@[simp] theorem State.Of.setLastState_script (v : Bool) : (s.setLastState v).script = s.script := rfl
@[simp] theorem State.Of.setLastState_issued (v : Bool) : (s.setLastState v).issued = s.issued := rfl

/-! ### `phase <- v` -/

@[simp] theorem State.Of.setPhase_history (v : Phase) : (s.setPhase v).history = s.history := rfl
@[simp] theorem State.Of.setPhase_state (v : Phase) : (s.setPhase v).state = s.state := rfl
@[simp] theorem State.Of.setPhase_lastState (v : Phase) : (s.setPhase v).lastState = s.lastState := rfl
@[simp] theorem State.Of.setPhase_phase (v : Phase) : (s.setPhase v).phase = v := rfl
@[simp] theorem State.Of.setPhase_phaseTimer (v : Phase) : (s.setPhase v).phaseTimer = s.phaseTimer := rfl
@[simp] theorem State.Of.setPhase_timePressed (v : Phase) : (s.setPhase v).timePressed = s.timePressed := rfl
@[simp] theorem State.Of.setPhase_buttonIgnored (v : Phase) : (s.setPhase v).buttonIgnored = s.buttonIgnored := rfl
@[simp] theorem State.Of.setPhase_en (v : Phase) : (s.setPhase v).en = s.en := rfl
@[simp] theorem State.Of.setPhase_shutdown (v : Phase) : (s.setPhase v).shutdown = s.shutdown := rfl
@[simp] theorem State.Of.setPhase_tick (v : Phase) : (s.setPhase v).tick = s.tick := rfl
@[simp] theorem State.Of.setPhase_select (v : Phase) : (s.setPhase v).select = s.select := rfl
@[simp] theorem State.Of.setPhase_script (v : Phase) : (s.setPhase v).script = s.script := rfl
@[simp] theorem State.Of.setPhase_issued (v : Phase) : (s.setPhase v).issued = s.issued := rfl

/-! ### `phaseTimer <- v` -/

@[simp] theorem State.Of.setPhaseTimer_history (v : Time wTime) : (s.setPhaseTimer v).history = s.history := rfl
@[simp] theorem State.Of.setPhaseTimer_state (v : Time wTime) : (s.setPhaseTimer v).state = s.state := rfl
@[simp] theorem State.Of.setPhaseTimer_lastState (v : Time wTime) : (s.setPhaseTimer v).lastState = s.lastState := rfl
@[simp] theorem State.Of.setPhaseTimer_phase (v : Time wTime) : (s.setPhaseTimer v).phase = s.phase := rfl
@[simp] theorem State.Of.setPhaseTimer_phaseTimer (v : Time wTime) : (s.setPhaseTimer v).phaseTimer = v := rfl
@[simp] theorem State.Of.setPhaseTimer_timePressed (v : Time wTime) :
    (s.setPhaseTimer v).timePressed = s.timePressed := rfl
@[simp] theorem State.Of.setPhaseTimer_buttonIgnored (v : Time wTime) :
    (s.setPhaseTimer v).buttonIgnored = s.buttonIgnored := rfl
@[simp] theorem State.Of.setPhaseTimer_en (v : Time wTime) : (s.setPhaseTimer v).en = s.en := rfl
@[simp] theorem State.Of.setPhaseTimer_shutdown (v : Time wTime) : (s.setPhaseTimer v).shutdown = s.shutdown := rfl
@[simp] theorem State.Of.setPhaseTimer_tick (v : Time wTime) : (s.setPhaseTimer v).tick = s.tick := rfl
@[simp] theorem State.Of.setPhaseTimer_select (v : Time wTime) : (s.setPhaseTimer v).select = s.select := rfl
@[simp] theorem State.Of.setPhaseTimer_script (v : Time wTime) : (s.setPhaseTimer v).script = s.script := rfl
@[simp] theorem State.Of.setPhaseTimer_issued (v : Time wTime) : (s.setPhaseTimer v).issued = s.issued := rfl

/-! ### `timePressed <- v` -/

@[simp] theorem State.Of.setTimePressed_history (v : Time wTime) : (s.setTimePressed v).history = s.history := rfl
@[simp] theorem State.Of.setTimePressed_state (v : Time wTime) : (s.setTimePressed v).state = s.state := rfl
@[simp] theorem State.Of.setTimePressed_lastState (v : Time wTime) : (s.setTimePressed v).lastState = s.lastState := rfl
@[simp] theorem State.Of.setTimePressed_phase (v : Time wTime) : (s.setTimePressed v).phase = s.phase := rfl
@[simp] theorem State.Of.setTimePressed_phaseTimer (v : Time wTime) : (s.setTimePressed v).phaseTimer = s.phaseTimer :=
  rfl
@[simp] theorem State.Of.setTimePressed_timePressed (v : Time wTime) : (s.setTimePressed v).timePressed = v := rfl
@[simp] theorem State.Of.setTimePressed_buttonIgnored (v : Time wTime) :
    (s.setTimePressed v).buttonIgnored = s.buttonIgnored := rfl
@[simp] theorem State.Of.setTimePressed_en (v : Time wTime) : (s.setTimePressed v).en = s.en := rfl
@[simp] theorem State.Of.setTimePressed_shutdown (v : Time wTime) : (s.setTimePressed v).shutdown = s.shutdown := rfl
@[simp] theorem State.Of.setTimePressed_tick (v : Time wTime) : (s.setTimePressed v).tick = s.tick := rfl
@[simp] theorem State.Of.setTimePressed_select (v : Time wTime) : (s.setTimePressed v).select = s.select := rfl
@[simp] theorem State.Of.setTimePressed_script (v : Time wTime) : (s.setTimePressed v).script = s.script := rfl
@[simp] theorem State.Of.setTimePressed_issued (v : Time wTime) : (s.setTimePressed v).issued = s.issued := rfl

/-! ### `buttonIgnored <- v` -/

@[simp] theorem State.Of.setButtonIgnored_history (v : Bool) : (s.setButtonIgnored v).history = s.history := rfl
@[simp] theorem State.Of.setButtonIgnored_state (v : Bool) : (s.setButtonIgnored v).state = s.state := rfl
@[simp] theorem State.Of.setButtonIgnored_lastState (v : Bool) : (s.setButtonIgnored v).lastState = s.lastState := rfl
@[simp] theorem State.Of.setButtonIgnored_phase (v : Bool) : (s.setButtonIgnored v).phase = s.phase := rfl
@[simp] theorem State.Of.setButtonIgnored_phaseTimer (v : Bool) : (s.setButtonIgnored v).phaseTimer = s.phaseTimer :=
  rfl
@[simp] theorem State.Of.setButtonIgnored_timePressed (v : Bool) :
    (s.setButtonIgnored v).timePressed = s.timePressed := rfl
@[simp] theorem State.Of.setButtonIgnored_buttonIgnored (v : Bool) : (s.setButtonIgnored v).buttonIgnored = v := rfl
@[simp] theorem State.Of.setButtonIgnored_en (v : Bool) : (s.setButtonIgnored v).en = s.en := rfl
@[simp] theorem State.Of.setButtonIgnored_shutdown (v : Bool) : (s.setButtonIgnored v).shutdown = s.shutdown := rfl
@[simp] theorem State.Of.setButtonIgnored_tick (v : Bool) : (s.setButtonIgnored v).tick = s.tick := rfl
@[simp] theorem State.Of.setButtonIgnored_select (v : Bool) : (s.setButtonIgnored v).select = s.select := rfl
@[simp] theorem State.Of.setButtonIgnored_script (v : Bool) : (s.setButtonIgnored v).script = s.script := rfl
@[simp] theorem State.Of.setButtonIgnored_issued (v : Bool) : (s.setButtonIgnored v).issued = s.issued := rfl

/-! ### `en <- v` -/

@[simp] theorem State.Of.setEn_history (v : Bool) : (s.setEn v).history = s.history := rfl
@[simp] theorem State.Of.setEn_state (v : Bool) : (s.setEn v).state = s.state := rfl
@[simp] theorem State.Of.setEn_lastState (v : Bool) : (s.setEn v).lastState = s.lastState := rfl
@[simp] theorem State.Of.setEn_phase (v : Bool) : (s.setEn v).phase = s.phase := rfl
@[simp] theorem State.Of.setEn_phaseTimer (v : Bool) : (s.setEn v).phaseTimer = s.phaseTimer := rfl
@[simp] theorem State.Of.setEn_timePressed (v : Bool) : (s.setEn v).timePressed = s.timePressed := rfl
@[simp] theorem State.Of.setEn_buttonIgnored (v : Bool) : (s.setEn v).buttonIgnored = s.buttonIgnored := rfl
@[simp] theorem State.Of.setEn_en (v : Bool) : (s.setEn v).en = v := rfl
@[simp] theorem State.Of.setEn_shutdown (v : Bool) : (s.setEn v).shutdown = s.shutdown := rfl
@[simp] theorem State.Of.setEn_tick (v : Bool) : (s.setEn v).tick = s.tick := rfl
@[simp] theorem State.Of.setEn_select (v : Bool) : (s.setEn v).select = s.select := rfl
@[simp] theorem State.Of.setEn_script (v : Bool) : (s.setEn v).script = s.script := rfl
@[simp] theorem State.Of.setEn_issued (v : Bool) : (s.setEn v).issued = s.issued := rfl

/-! ### `shutdown <- v` -/

@[simp] theorem State.Of.setShutdown_history (v : Bool) : (s.setShutdown v).history = s.history := rfl
@[simp] theorem State.Of.setShutdown_state (v : Bool) : (s.setShutdown v).state = s.state := rfl
@[simp] theorem State.Of.setShutdown_lastState (v : Bool) : (s.setShutdown v).lastState = s.lastState := rfl
@[simp] theorem State.Of.setShutdown_phase (v : Bool) : (s.setShutdown v).phase = s.phase := rfl
@[simp] theorem State.Of.setShutdown_phaseTimer (v : Bool) : (s.setShutdown v).phaseTimer = s.phaseTimer := rfl
@[simp] theorem State.Of.setShutdown_timePressed (v : Bool) : (s.setShutdown v).timePressed = s.timePressed := rfl
@[simp] theorem State.Of.setShutdown_buttonIgnored (v : Bool) : (s.setShutdown v).buttonIgnored = s.buttonIgnored := rfl
@[simp] theorem State.Of.setShutdown_en (v : Bool) : (s.setShutdown v).en = s.en := rfl
@[simp] theorem State.Of.setShutdown_shutdown (v : Bool) : (s.setShutdown v).shutdown = v := rfl
@[simp] theorem State.Of.setShutdown_tick (v : Bool) : (s.setShutdown v).tick = s.tick := rfl
@[simp] theorem State.Of.setShutdown_select (v : Bool) : (s.setShutdown v).select = s.select := rfl
@[simp] theorem State.Of.setShutdown_script (v : Bool) : (s.setShutdown v).script = s.script := rfl
@[simp] theorem State.Of.setShutdown_issued (v : Bool) : (s.setShutdown v).issued = s.issued := rfl

/-! ### `tick <- v` -/

@[simp] theorem State.Of.setTick_history (v : PerTick wTime) : (s.setTick v).history = s.history := rfl
@[simp] theorem State.Of.setTick_state (v : PerTick wTime) : (s.setTick v).state = s.state := rfl
@[simp] theorem State.Of.setTick_lastState (v : PerTick wTime) : (s.setTick v).lastState = s.lastState := rfl
@[simp] theorem State.Of.setTick_phase (v : PerTick wTime) : (s.setTick v).phase = s.phase := rfl
@[simp] theorem State.Of.setTick_phaseTimer (v : PerTick wTime) : (s.setTick v).phaseTimer = s.phaseTimer := rfl
@[simp] theorem State.Of.setTick_timePressed (v : PerTick wTime) : (s.setTick v).timePressed = s.timePressed := rfl
@[simp] theorem State.Of.setTick_buttonIgnored (v : PerTick wTime) : (s.setTick v).buttonIgnored = s.buttonIgnored :=
  rfl
@[simp] theorem State.Of.setTick_en (v : PerTick wTime) : (s.setTick v).en = s.en := rfl
@[simp] theorem State.Of.setTick_shutdown (v : PerTick wTime) : (s.setTick v).shutdown = s.shutdown := rfl
@[simp] theorem State.Of.setTick_tick (v : PerTick wTime) : (s.setTick v).tick = v := rfl
@[simp] theorem State.Of.setTick_select (v : PerTick wTime) : (s.setTick v).select = s.select := rfl
@[simp] theorem State.Of.setTick_script (v : PerTick wTime) : (s.setTick v).script = s.script := rfl
@[simp] theorem State.Of.setTick_issued (v : PerTick wTime) : (s.setTick v).issued = s.issued := rfl

/-! ### `select <- v` -/

@[simp] theorem State.Of.setSelect_history (v : FetchPlace) : (s.setSelect v).history = s.history := rfl
@[simp] theorem State.Of.setSelect_state (v : FetchPlace) : (s.setSelect v).state = s.state := rfl
@[simp] theorem State.Of.setSelect_lastState (v : FetchPlace) : (s.setSelect v).lastState = s.lastState := rfl
@[simp] theorem State.Of.setSelect_phase (v : FetchPlace) : (s.setSelect v).phase = s.phase := rfl
@[simp] theorem State.Of.setSelect_phaseTimer (v : FetchPlace) : (s.setSelect v).phaseTimer = s.phaseTimer := rfl
@[simp] theorem State.Of.setSelect_timePressed (v : FetchPlace) : (s.setSelect v).timePressed = s.timePressed := rfl
@[simp] theorem State.Of.setSelect_buttonIgnored (v : FetchPlace) : (s.setSelect v).buttonIgnored = s.buttonIgnored :=
  rfl
@[simp] theorem State.Of.setSelect_en (v : FetchPlace) : (s.setSelect v).en = s.en := rfl
@[simp] theorem State.Of.setSelect_shutdown (v : FetchPlace) : (s.setSelect v).shutdown = s.shutdown := rfl
@[simp] theorem State.Of.setSelect_tick (v : FetchPlace) : (s.setSelect v).tick = s.tick := rfl
@[simp] theorem State.Of.setSelect_select (v : FetchPlace) : (s.setSelect v).select = v := rfl
@[simp] theorem State.Of.setSelect_script (v : FetchPlace) : (s.setSelect v).script = s.script := rfl
@[simp] theorem State.Of.setSelect_issued (v : FetchPlace) : (s.setSelect v).issued = s.issued := rfl

/-! ### `script <- v` -/

@[simp] theorem State.Of.setScript_history (v : List Byte) : (s.setScript v).history = s.history := rfl
@[simp] theorem State.Of.setScript_state (v : List Byte) : (s.setScript v).state = s.state := rfl
@[simp] theorem State.Of.setScript_lastState (v : List Byte) : (s.setScript v).lastState = s.lastState := rfl
@[simp] theorem State.Of.setScript_phase (v : List Byte) : (s.setScript v).phase = s.phase := rfl
@[simp] theorem State.Of.setScript_phaseTimer (v : List Byte) : (s.setScript v).phaseTimer = s.phaseTimer := rfl
@[simp] theorem State.Of.setScript_timePressed (v : List Byte) : (s.setScript v).timePressed = s.timePressed := rfl
@[simp] theorem State.Of.setScript_buttonIgnored (v : List Byte) : (s.setScript v).buttonIgnored = s.buttonIgnored :=
  rfl
@[simp] theorem State.Of.setScript_en (v : List Byte) : (s.setScript v).en = s.en := rfl
@[simp] theorem State.Of.setScript_shutdown (v : List Byte) : (s.setScript v).shutdown = s.shutdown := rfl
@[simp] theorem State.Of.setScript_tick (v : List Byte) : (s.setScript v).tick = s.tick := rfl
@[simp] theorem State.Of.setScript_select (v : List Byte) : (s.setScript v).select = s.select := rfl
@[simp] theorem State.Of.setScript_script (v : List Byte) : (s.setScript v).script = v := rfl
@[simp] theorem State.Of.setScript_issued (v : List Byte) : (s.setScript v).issued = s.issued := rfl

/-! ### `issued <- v` -/

@[simp] theorem State.Of.setIssued_history (v : Nat) : (s.setIssued v).history = s.history := rfl
@[simp] theorem State.Of.setIssued_state (v : Nat) : (s.setIssued v).state = s.state := rfl
@[simp] theorem State.Of.setIssued_lastState (v : Nat) : (s.setIssued v).lastState = s.lastState := rfl
@[simp] theorem State.Of.setIssued_phase (v : Nat) : (s.setIssued v).phase = s.phase := rfl
@[simp] theorem State.Of.setIssued_phaseTimer (v : Nat) : (s.setIssued v).phaseTimer = s.phaseTimer := rfl
@[simp] theorem State.Of.setIssued_timePressed (v : Nat) : (s.setIssued v).timePressed = s.timePressed := rfl
@[simp] theorem State.Of.setIssued_buttonIgnored (v : Nat) : (s.setIssued v).buttonIgnored = s.buttonIgnored := rfl
@[simp] theorem State.Of.setIssued_en (v : Nat) : (s.setIssued v).en = s.en := rfl
@[simp] theorem State.Of.setIssued_shutdown (v : Nat) : (s.setIssued v).shutdown = s.shutdown := rfl
@[simp] theorem State.Of.setIssued_tick (v : Nat) : (s.setIssued v).tick = s.tick := rfl
@[simp] theorem State.Of.setIssued_select (v : Nat) : (s.setIssued v).select = s.select := rfl
@[simp] theorem State.Of.setIssued_script (v : Nat) : (s.setIssued v).script = s.script := rfl
@[simp] theorem State.Of.setIssued_issued (v : Nat) : (s.setIssued v).issued = v := rfl

/-! ### Reset -/

@[simp] theorem resetAt_history (P : Params wHist wTime) : (resetAt P).history = P.histReset := rfl
@[simp] theorem resetAt_state (P : Params wHist wTime) : (resetAt P).state = false := rfl
@[simp] theorem resetAt_lastState (P : Params wHist wTime) : (resetAt P).lastState = false := rfl
@[simp] theorem resetAt_phase (P : Params wHist wTime) : (resetAt P).phase = .start := rfl
@[simp] theorem resetAt_phaseTimer (P : Params wHist wTime) : (resetAt P).phaseTimer = 0#wTime := rfl
@[simp] theorem resetAt_timePressed (P : Params wHist wTime) : (resetAt P).timePressed = 0#wTime := rfl
@[simp] theorem resetAt_buttonIgnored (P : Params wHist wTime) : (resetAt P).buttonIgnored = false := rfl
@[simp] theorem resetAt_en (P : Params wHist wTime) : (resetAt P).en = false := rfl
@[simp] theorem resetAt_shutdown (P : Params wHist wTime) : (resetAt P).shutdown = false := rfl
@[simp] theorem resetAt_tick (P : Params wHist wTime) : (resetAt P).tick = PerTick.begin TickInputs.idle := rfl
@[simp] theorem resetAt_select (P : Params wHist wTime) : (resetAt P).select = .script := rfl
@[simp] theorem resetAt_script (P : Params wHist wTime) : (resetAt P).script = [] := rfl
@[simp] theorem resetAt_issued (P : Params wHist wTime) : (resetAt P).issued = 0 := rfl

@[simp] theorem State.reset_eq : State.reset = resetAt Config.params := rfl

end Sys2Proof.Machine
end

