-- ==== Sys2Proof/Laws/Ops.lean ====
section
/-! SUPPORT. For each shared operation one lemma that says everything it can do, and the fields it leaves alone. -/

namespace Sys2Proof.Machine

open Sys2Proof

variable {wHist wTime : Nat}

/-! ### The parameters -/

@[simp] theorem params_debMask : Config.params.debMask = 0b11000111#8 := rfl
@[simp] theorem params_debPressed : Config.params.debPressed = 0b11000000#8 := rfl
@[simp] theorem params_debReleased : Config.params.debReleased = 0b00000111#8 := rfl
@[simp] theorem params_debDown : Config.params.debDown = 0x00#8 := rfl
@[simp] theorem params_debUp : Config.params.debUp = 0xFF#8 := rfl
@[simp] theorem params_histReset : Config.params.histReset = 0xFF#8 := rfl
@[simp] theorem params_tLongPress : Config.params.tLongPress = 2000#32 := rfl
@[simp] theorem params_tPowerwait : Config.params.tPowerwait = 1000#32 := rfl
@[simp] theorem params_tBootwait : Config.params.tBootwait = 30000#32 := rfl
@[simp] theorem params_tShutdown : Config.params.tShutdown = 30000#32 := rfl
@[simp] theorem params_tPoweroff : Config.params.tPoweroff = 30000#32 := rfl
@[simp] theorem params_tIdle : Config.params.tIdle = 5000#32 := rfl
@[simp] theorem params_enActive : Config.params.enActive = true := rfl
@[simp] theorem params_sdActive : Config.params.sdActive = true := rfl
@[simp] theorem params_bootActive : Config.params.bootActive = false := rfl
@[simp] theorem params_haltEnable : Config.params.haltEnable = true := rfl

/-! ### Operands and comparisons -/

theorem shiftIn_getLsbD (h : History wHist) (x : Bool) (k : Nat) :
    (shiftIn h x).getLsbD k = (decide (k < wHist) && if k = 0 then x else h.getLsbD (k - 1)) := by
  rcases k with - | k <;> simp [shiftIn, BitVec.getLsbD_shiftLeft, BitVec.getLsbD_setWidth]

@[simp] theorem pinLevel_true (latch : Bool) : pinLevel true latch = latch := by cases latch <;> rfl
@[simp] theorem pinLevel_false (latch : Bool) : pinLevel false latch = !latch := by cases latch <;> rfl

theorem timedOut_iff (e t : Time wTime) : timedOut e t = true ↔ t.toNat < e.toNat := by
  simp [timedOut, BitVec.lt_def]

theorem longHold_iff (P : Params wHist wTime) (h : Time wTime) :
    longHold P h = true ↔ P.tLongPress.toNat ≤ h.toNat := by
  simp [longHold, BitVec.le_def]

theorem shortHold_iff (P : Params wHist wTime) (h : Time wTime) :
    shortHold P h = true ↔ h.toNat < P.tLongPress.toNat := by
  simp [shortHold, BitVec.lt_def]

/-- A hold is short or long, never both (42_timer_button.md R148). -/
theorem shortHold_eq (P : Params wHist wTime) (h : Time wTime) : shortHold P h = !longHold P h := by
  simp [shortHold, longHold, ← BitVec.not_lt]

theorem wentHigh_iff (s : State.Of wHist wTime) : wentHigh s = true ↔ s.state = true ∧ s.lastState = false := by
  simp [wentHigh, risingEdge]

theorem wentLow_iff (s : State.Of wHist wTime) : wentLow s = true ↔ s.state = false ∧ s.lastState = true := by
  simp [wentLow, fallingEdge]

theorem waitOver_iff (t : Time wTime) (s : State.Of wHist wTime) :
    waitOver t s = true ↔ t.toNat < (s.tick.inputs.now - s.phaseTimer).toNat := timedOut_iff _ _

/-! ### What each operation does -/

theorem withResult_eq (r : Result wTime) (s : State.Of wHist wTime) :
    withResult r s = { s with tick := { s.tick with result := r } } := rfl

theorem settlePressed_eq (P : Params wHist wTime) (s : State.Of wHist wTime) :
    settlePressed P s = { s with history := if matchesPressed P s.history then P.debDown else s.history } := by
  unfold settlePressed
  split <;> rfl

theorem settleReleased_eq (P : Params wHist wTime) (s : State.Of wHist wTime) :
    settleReleased P s = { s with history := if matchesReleased P s.history then P.debUp else s.history } := by
  unfold settleReleased
  split <;> rfl

theorem requestHalt_eq (P : Params wHist wTime) (s : State.Of wHist wTime) :
    requestHalt P s = { s with tick := { s.tick with haltReq := P.haltEnable || s.tick.haltReq } } := by
  unfold requestHalt
  split <;> rename_i h <;> simp [h, State.Of.setTick]

theorem readBoot_eq (P : Params wHist wTime) (s : State.Of wHist wTime) :
    readBoot P s = { s with tick := { s.tick with bootAsserted := s.tick.inputs.pinBoot == P.bootActive } } := rfl

theorem override_eq (lp : Bool) (s : State.Of wHist wTime) :
    override lp s = { s with phase := if lp then .poweroff2 else s.phase, buttonIgnored := lp || s.buttonIgnored } := by
  cases lp <;> rfl

theorem sampleSensors_eq (s : State.Of wHist wTime) :
    sampleSensors s = { s with
      state := if s.tick.inputs.sampleStb then s.tick.inputs.pinUsb else s.state
      history := if s.tick.inputs.sampleStb then shiftIn s.history s.tick.inputs.pinPower else s.history } := by
  unfold sampleSensors
  split <;> rename_i h
  · rfl
  · rfl

theorem latchInputs_eq (P : Params wHist wTime) (inp : TickInputs wTime) (s : State.Of wHist wTime) :
    latchInputs P inp s = { s with
      tick := { PerTick.begin inp with bootAsserted := inp.pinBoot == P.bootActive }
      select := .script } := rfl

/-- The history and the two events after both one-shot queries, press first. -/
def queried (P : Params wHist wTime) (h : History wHist) : History wHist × Bool × Bool :=
  let p := matchesPressed P h
  let h1 := if p then P.debDown else h
  let r := matchesReleased P h1
  (if r then P.debUp else h1, p, r)

theorem senseButton_eq (P : Params wHist wTime) (now : Time wTime) (s : State.Of wHist wTime) :
    senseButton P now s = { s with
      history := (queried P s.history).1
      timePressed := if (queried P s.history).2.1 then now else s.timePressed
      tick := { s.tick with pressed := (queried P s.history).2.1, released := (queried P s.history).2.2 } } := by
  rcases s with ⟨hi, st, ls, ph, pt, tp, bi, en, sd, tk, se, sc, is⟩
  simp only [senseButton, settlePressed_eq, settleReleased_eq, queried]
  cases h : matchesPressed P hi <;> rfl

theorem raisePresses_eq (P : Params wHist wTime) (now : Time wTime) (s : State.Of wHist wTime) :
    raisePresses P now s = { s with
      buttonIgnored := !s.tick.released && s.buttonIgnored
      tick := { s.tick with
        shortPress := s.tick.released && !s.buttonIgnored && shortHold P (now - s.timePressed)
        longPress := settledDown P s.history && !(!s.tick.released && s.buttonIgnored) &&
          longHold P (now - s.timePressed) } } := by
  simp only [raisePresses, shortPressRaised, longPressRaised, held, timeSince]
  cases hr : s.tick.released <;> cases hb : s.buttonIgnored <;>
    simp [endSoakUp, State.Of.setTick, State.Of.setButtonIgnored, hr, hb]

/-- BTN.EVENTS as one update (42_timer_button.md R143, R145, R146). -/
theorem buttonEvents_eq (P : Params wHist wTime) (now : Time wTime) (s : State.Of wHist wTime) :
    buttonEvents P now s =
      let q := queried P s.history
      let tp := if q.2.1 then now else s.timePressed
      { s with
        history := q.1
        timePressed := tp
        buttonIgnored := !q.2.2 && s.buttonIgnored
        tick := { s.tick with
          pressed := q.2.1
          released := q.2.2
          shortPress := q.2.2 && !s.buttonIgnored && shortHold P (now - tp)
          longPress := settledDown P q.1 && !(!q.2.2 && s.buttonIgnored) && longHold P (now - tp) } } := by
  simp only [buttonEvents, raisePresses_eq, senseButton_eq]

/-! ### What a phase rule does -/

/-- The phase that the current phase's rule leaves (43_sequencer.md R165 to R179, R182). -/
def phaseAfter (P : Params wHist wTime) (s : State.Of wHist wTime) : Phase :=
  match s.phase with
  | .start => if s.state then .powerwait0 else .poweroff2
  | .powerwait0 => .powerwait1
  | .powerwait1 => if wentLow s then .poweroff2 else if waitOver P.tPowerwait s then .poweron else .powerwait1
  | .poweron => .bootwait0
  | .bootwait0 => .bootwait1
  | .bootwait1 => if waitOver P.tBootwait s then .poweroff2 else if s.tick.bootAsserted then .boot else .bootwait1
  | .boot =>
    if s.tick.shortPress || wentLow s then .shutdown0 else if !s.tick.bootAsserted then .poweroff0 else .boot
  | .shutdown0 => .shutdown1
  | .shutdown1 => if waitOver P.tShutdown s then .poweroff0 else if !s.tick.bootAsserted then .poweroff0 else .shutdown1
  | .poweroff0 => .poweroff1
  | .poweroff1 => if waitOver P.tPoweroff s then .poweroff2 else if s.tick.bootAsserted then .boot else .poweroff1
  | .poweroff2 => .idle0
  | .idle0 => .idle1
  | .idle1 => .idle2
  | .idle2 =>
    if waitOver P.tIdle s then .idle0
    else if (s.tick.shortPress && s.state) || wentHigh s then .poweron
    else .idle2

/-- The phases whose rule records `phase_timer` (43_sequencer.md R181). -/
def recordsTimer : Phase → Bool
  | .powerwait0 | .bootwait0 | .shutdown0 | .poweroff0 | .idle1 => true
  | .start | .powerwait1 | .poweron | .bootwait1 | .boot | .shutdown1 | .poweroff1 | .poweroff2 | .idle0
  | .idle2 => false

/-- The phases whose rule issues an edge query (43_sequencer.md R164). -/
def queriesEdge : Phase → Bool
  | .powerwait1 | .boot | .idle2 => true
  | .start | .powerwait0 | .poweron | .bootwait0 | .bootwait1 | .shutdown0 | .shutdown1 | .poweroff0 | .poweroff1
  | .poweroff2 | .idle0 | .idle1 => false

/-- The phases whose rule chains (43_sequencer.md R163). -/
def chains : Phase → Bool
  | .poweroff0 | .idle0 | .idle1 => true
  | .start | .powerwait0 | .powerwait1 | .poweron | .bootwait0 | .bootwait1 | .boot | .shutdown0 | .shutdown1
  | .poweroff1 | .poweroff2 | .idle2 => false

/-- EN after a phase's rule (43_sequencer.md R181). -/
def enAfter (en : Bool) : Phase → Bool
  | .poweron => true
  | .poweroff2 => false
  | .start | .powerwait0 | .powerwait1 | .bootwait0 | .bootwait1 | .boot | .shutdown0 | .shutdown1 | .poweroff0
  | .poweroff1 | .idle0 | .idle1 | .idle2 => en

/-- SHUTDOWN after a phase's rule (43_sequencer.md R181). -/
def shutdownAfter (sd : Bool) : Phase → Bool
  | .shutdown0 => true
  | .poweroff0 | .poweroff2 => false
  | .start | .powerwait0 | .powerwait1 | .poweron | .bootwait0 | .bootwait1 | .boot | .shutdown1 | .poweroff1
  | .idle0 | .idle1 | .idle2 => sd

/-- The halt request after a phase's rule (43_sequencer.md R177). -/
def haltAfter (P : Params wHist wTime) (halt : Bool) : Phase → Bool
  | .idle0 => P.haltEnable || halt
  | .start | .powerwait0 | .powerwait1 | .poweron | .bootwait0 | .bootwait1 | .boot | .shutdown0 | .shutdown1
  | .poweroff0 | .poweroff1 | .poweroff2 | .idle1 | .idle2 => halt

/-- Everything a phase rule can do: the rest of the state is as it was. -/
theorem evaluatePhase_eq (P : Params wHist wTime) (s : State.Of wHist wTime) :
    evaluatePhase P s = { s with
      lastState := if queriesEdge s.phase then s.state else s.lastState
      phase := phaseAfter P s
      phaseTimer := if recordsTimer s.phase then s.tick.inputs.now else s.phaseTimer
      en := enAfter s.en s.phase
      shutdown := shutdownAfter s.shutdown s.phase
      select := if chains s.phase then .phaseRegister else .script
      tick := { s.tick with
        haltReq := haltAfter P s.tick.haltReq s.phase
        evaluated := s.tick.evaluated ++ [s.phase]
        result := .none } } := by
  rcases s with ⟨hi, st, ls, ph, pt, tp, bi, en, sd, tk, se, sc, is⟩
  cases ph
  case start => rfl
  case powerwait0 => rfl
  case powerwait1 =>
    simp only [evaluatePhase, rulePowerwait1, phaseAfter]
    split
    · rfl
    · split <;> rfl
  case poweron => rfl
  case bootwait0 => rfl
  case bootwait1 =>
    simp only [evaluatePhase, ruleBootwait1, phaseAfter]
    split
    · rfl
    · split <;> rfl
  case boot =>
    simp only [evaluatePhase, ruleBoot, phaseAfter]
    split
    · rfl
    · split <;> rfl
  case shutdown0 => rfl
  case shutdown1 =>
    simp only [evaluatePhase, ruleShutdown1, phaseAfter]
    split
    · rfl
    · split <;> rfl
  case poweroff0 => rfl
  case poweroff1 =>
    simp only [evaluatePhase, rulePoweroff1, phaseAfter]
    split
    · rfl
    · split <;> rfl
  case poweroff2 => rfl
  case idle0 =>
    simp only [evaluatePhase, ruleIdle0, requestHalt_eq]
    rfl
  case idle1 => rfl
  case idle2 =>
    simp only [evaluatePhase, ruleIdle2, phaseAfter]
    split
    · rfl
    · split <;> rfl

/-- Evaluation stops after the first rule that does not chain (43_sequencer.md R163). -/
theorem evaluateChain_succ (P : Params wHist wTime) (n : Nat) (s : State.Of wHist wTime) :
    evaluateChain P (n + 1) s =
      if chains s.phase then evaluateChain P n (evaluatePhase P s) else evaluatePhase P s := by
  simp only [evaluateChain, evaluatePhase_eq P s]
  cases chains s.phase <;> simp

/-- The rules that a tick evaluates, by the phase it starts in (43_sequencer.md R163). -/
theorem evaluateChain_three (P : Params wHist wTime) (s : State.Of wHist wTime) :
    evaluateChain P 3 s =
      match s.phase with
      | .poweroff0 => evaluatePhase P (evaluatePhase P s)
      | .idle0 => evaluatePhase P (evaluatePhase P (evaluatePhase P s))
      | .idle1 => evaluatePhase P (evaluatePhase P s)
      | _ => evaluatePhase P s := by
  have h1 : s.phase = .poweroff0 → (evaluatePhase P s).phase = .poweroff1 := by
    intro h; rw [evaluatePhase_eq]; simp [phaseAfter, h]
  have h2 : s.phase = .idle0 → (evaluatePhase P s).phase = .idle1 := by
    intro h; rw [evaluatePhase_eq]; simp [phaseAfter, h]
  have h3 : ∀ t : State.Of wHist wTime, t.phase = .idle1 → (evaluatePhase P t).phase = .idle2 := by
    intro t h; rw [evaluatePhase_eq]; simp [phaseAfter, h]
  cases h : s.phase <;> simp only [evaluateChain_succ, h, chains, if_true, if_false, Bool.false_eq_true]
  · simp [h1 h]
  · simp [h2 h, h3 _ (h2 h)]
  · simp [h3 s h]

/-- The state in which a tick dispatches the phase, as one update (43_sequencer.md R160, steps 1 to 5). -/
theorem beforePhases_eq (P : Params wHist wTime) (inp : TickInputs wTime) (s : State.Of wHist wTime) :
    beforePhases P inp s =
      let h := if inp.sampleStb then shiftIn s.history inp.pinPower else s.history
      let q := queried P h
      let tp := if q.2.1 then inp.now else s.timePressed
      let ign := !q.2.2 && s.buttonIgnored
      let lp := settledDown P q.1 && !ign && longHold P (inp.now - tp)
      { s with
        history := q.1
        state := if inp.sampleStb then inp.pinUsb else s.state
        phase := if lp then .poweroff2 else s.phase
        timePressed := tp
        buttonIgnored := lp || ign
        select := .script
        tick := { PerTick.begin inp with
          bootAsserted := inp.pinBoot == P.bootActive
          pressed := q.2.1
          released := q.2.2
          shortPress := q.2.2 && !s.buttonIgnored && shortHold P (inp.now - tp)
          longPress := lp } } := by
  simp only [beforePhases, latchInputs_eq, sampleSensors_eq, buttonEvents_eq, override_eq]
  rfl

/-- A tick is its evaluated rules, with the outputs as its result. -/
theorem tick_eq (P : Params wHist wTime) (inp : TickInputs wTime) (s : State.Of wHist wTime) :
    tick P inp s = { evaluateChain P 3 (beforePhases P inp s) with
      tick := { (evaluateChain P 3 (beforePhases P inp s)).tick with
        result := .outputs (tickOutputs P (evaluateChain P 3 (beforePhases P inp s))) } } := rfl

end Sys2Proof.Machine
end

