-- ==== Sys2Proof/Laws/PerInstr.lean ====
section
/-! SUPPORT. The family TableRow: the identifying byte of every instruction is the one its row of opcode_table.json
gives, one lemma per constructor. -/

namespace Sys2Proof.Laws

open Sys2Proof

/-- The row's width in bits, its mask and its match, as opcode_table.json has them. -/
def rowOf : Instr → Nat × Byte × Byte
  | .debUpdate _ => (6, 0x3F#8, 0x00#8)
  | .debIsUp => (6, 0x3F#8, 0x01#8)
  | .debIsDown => (6, 0x3F#8, 0x02#8)
  | .debIsPressed => (6, 0x3F#8, 0x03#8)
  | .debIsReleased => (6, 0x3F#8, 0x04#8)
  | .lsUpdate _ => (6, 0x3F#8, 0x08#8)
  | .lsIsHigh => (6, 0x3F#8, 0x09#8)
  | .lsIsLow => (6, 0x3F#8, 0x0A#8)
  | .lsWentHigh => (6, 0x3F#8, 0x0B#8)
  | .lsWentLow => (6, 0x3F#8, 0x0C#8)
  | .tmrRecord _ => (6, 0x3F#8, 0x10#8)
  | .tmrElapsed _ => (6, 0x3F#8, 0x11#8)
  | .tmrHeld _ => (6, 0x3F#8, 0x12#8)
  | .btnEvents _ => (6, 0x3F#8, 0x18#8)
  | .ioReadPower => (6, 0x3F#8, 0x20#8)
  | .ioReadUsb => (6, 0x3F#8, 0x21#8)
  | .ioReadBoot => (6, 0x3F#8, 0x22#8)
  | .ioEnAssert => (6, 0x3F#8, 0x23#8)
  | .ioEnDeassert => (6, 0x3F#8, 0x24#8)
  | .ioSdAssert => (6, 0x3F#8, 0x25#8)
  | .ioSdDeassert => (6, 0x3F#8, 0x26#8)
  | .ioHalt => (6, 0x3F#8, 0x27#8)
  | .seqTick _ => (6, 0x3F#8, 0x28#8)
  | .seqOverride _ => (6, 0x3F#8, 0x29#8)
  | .seqReset => (6, 0x3F#8, 0x2A#8)
  | .phStart => (4, 0x0F#8, 0x00#8)
  | .phPowerwait0 => (4, 0x0F#8, 0x01#8)
  | .phPowerwait1 => (4, 0x0F#8, 0x02#8)
  | .phPoweron => (4, 0x0F#8, 0x03#8)
  | .phBootwait0 => (4, 0x0F#8, 0x04#8)
  | .phBootwait1 => (4, 0x0F#8, 0x05#8)
  | .phBoot => (4, 0x0F#8, 0x06#8)
  | .phShutdown0 => (4, 0x0F#8, 0x07#8)
  | .phShutdown1 => (4, 0x0F#8, 0x08#8)
  | .phPoweroff0 => (4, 0x0F#8, 0x09#8)
  | .phPoweroff1 => (4, 0x0F#8, 0x0A#8)
  | .phPoweroff2 => (4, 0x0F#8, 0x0B#8)
  | .phIdle0 => (4, 0x0F#8, 0x0C#8)
  | .phIdle1 => (4, 0x0F#8, 0x0D#8)
  | .phIdle2 => (4, 0x0F#8, 0x0E#8)
  | .phReserved => (4, 0x0F#8, 0x0F#8)
  | .histPressed _ => (8, 0xC7#8, 0xC0#8)
  | .histReleased _ => (8, 0xC7#8, 0x07#8)
  | .histDown => (8, 0xFF#8, 0x00#8)
  | .histUp => (8, 0xFF#8, 0xFF#8)

/-- Whether a byte matches a row and sets no bit beyond the row's width. -/
def byteFits (row : Nat × Byte × Byte) (b : Byte) : Bool :=
  b &&& row.2.1 == row.2.2 && decide (b.toNat < 2 ^ row.1)

/-- The instruction's first byte fits its row. -/
def TableRow.Statement (i : Instr) : Prop := (encode i).head?.map (byteFits (rowOf i)) = some true

theorem TableRow.debUpdate (sample : Bool) : TableRow.Statement (.debUpdate sample) :=
  congrArg some (rfl : byteFits (6, 0x3F#8, 0x00#8) 0x00#8 = true)
theorem TableRow.debIsUp : TableRow.Statement .debIsUp := rfl
theorem TableRow.debIsDown : TableRow.Statement .debIsDown := rfl
theorem TableRow.debIsPressed : TableRow.Statement .debIsPressed := rfl
theorem TableRow.debIsReleased : TableRow.Statement .debIsReleased := rfl
theorem TableRow.lsUpdate (sample : Bool) : TableRow.Statement (.lsUpdate sample) :=
  congrArg some (rfl : byteFits (6, 0x3F#8, 0x08#8) 0x08#8 = true)
theorem TableRow.lsIsHigh : TableRow.Statement .lsIsHigh := rfl
theorem TableRow.lsIsLow : TableRow.Statement .lsIsLow := rfl
theorem TableRow.lsWentHigh : TableRow.Statement .lsWentHigh := rfl
theorem TableRow.lsWentLow : TableRow.Statement .lsWentLow := rfl
theorem TableRow.tmrRecord (now : Time) : TableRow.Statement (.tmrRecord now) :=
  congrArg some (rfl : byteFits (6, 0x3F#8, 0x10#8) 0x10#8 = true)
theorem TableRow.tmrElapsed (now : Time) : TableRow.Statement (.tmrElapsed now) :=
  congrArg some (rfl : byteFits (6, 0x3F#8, 0x11#8) 0x11#8 = true)
theorem TableRow.tmrHeld (now : Time) : TableRow.Statement (.tmrHeld now) :=
  congrArg some (rfl : byteFits (6, 0x3F#8, 0x12#8) 0x12#8 = true)
theorem TableRow.btnEvents (now : Time) : TableRow.Statement (.btnEvents now) :=
  congrArg some (rfl : byteFits (6, 0x3F#8, 0x18#8) 0x18#8 = true)
theorem TableRow.ioReadPower : TableRow.Statement .ioReadPower := rfl
theorem TableRow.ioReadUsb : TableRow.Statement .ioReadUsb := rfl
theorem TableRow.ioReadBoot : TableRow.Statement .ioReadBoot := rfl
theorem TableRow.ioEnAssert : TableRow.Statement .ioEnAssert := rfl
theorem TableRow.ioEnDeassert : TableRow.Statement .ioEnDeassert := rfl
theorem TableRow.ioSdAssert : TableRow.Statement .ioSdAssert := rfl
theorem TableRow.ioSdDeassert : TableRow.Statement .ioSdDeassert := rfl
theorem TableRow.ioHalt : TableRow.Statement .ioHalt := rfl
theorem TableRow.seqTick (inputs : TickInputs 32) : TableRow.Statement (.seqTick inputs) :=
  congrArg some (rfl : byteFits (6, 0x3F#8, 0x28#8) 0x28#8 = true)
theorem TableRow.seqOverride (longPress : Bool) : TableRow.Statement (.seqOverride longPress) :=
  congrArg some (rfl : byteFits (6, 0x3F#8, 0x29#8) 0x29#8 = true)
theorem TableRow.seqReset : TableRow.Statement .seqReset := rfl
theorem TableRow.phStart : TableRow.Statement .phStart := rfl
theorem TableRow.phPowerwait0 : TableRow.Statement .phPowerwait0 := rfl
theorem TableRow.phPowerwait1 : TableRow.Statement .phPowerwait1 := rfl
theorem TableRow.phPoweron : TableRow.Statement .phPoweron := rfl
theorem TableRow.phBootwait0 : TableRow.Statement .phBootwait0 := rfl
theorem TableRow.phBootwait1 : TableRow.Statement .phBootwait1 := rfl
theorem TableRow.phBoot : TableRow.Statement .phBoot := rfl
theorem TableRow.phShutdown0 : TableRow.Statement .phShutdown0 := rfl
theorem TableRow.phShutdown1 : TableRow.Statement .phShutdown1 := rfl
theorem TableRow.phPoweroff0 : TableRow.Statement .phPoweroff0 := rfl
theorem TableRow.phPoweroff1 : TableRow.Statement .phPoweroff1 := rfl
theorem TableRow.phPoweroff2 : TableRow.Statement .phPoweroff2 := rfl
theorem TableRow.phIdle0 : TableRow.Statement .phIdle0 := rfl
theorem TableRow.phIdle1 : TableRow.Statement .phIdle1 := rfl
theorem TableRow.phIdle2 : TableRow.Statement .phIdle2 := rfl
theorem TableRow.phReserved : TableRow.Statement .phReserved := rfl
theorem TableRow.histPressed (mid : BitVec 3) : TableRow.Statement (.histPressed mid) := by
  revert mid
  unfold TableRow.Statement
  decide
theorem TableRow.histReleased (mid : BitVec 3) : TableRow.Statement (.histReleased mid) := by
  revert mid
  unfold TableRow.Statement
  decide
theorem TableRow.histDown : TableRow.Statement .histDown := rfl
theorem TableRow.histUp : TableRow.Statement .histUp := rfl

end Sys2Proof.Laws
end

