-- ==== Sys2Proof/Laws/Run.lean ====
section
/-! SUPPORT. What a tick leaves alone, what its first half decides, and how a step fetches. -/

namespace Sys2Proof.Machine

open Sys2Proof

variable {wHist wTime : Nat}

/-- What no phase rule of a tick touches. -/
theorem evaluateChain_frame (P : Params wHist wTime) (n : Nat) (s : State.Of wHist wTime) :
    (evaluateChain P n s).history = s.history ∧ (evaluateChain P n s).state = s.state ∧
    (evaluateChain P n s).timePressed = s.timePressed ∧ (evaluateChain P n s).buttonIgnored = s.buttonIgnored ∧
    (evaluateChain P n s).script = s.script ∧ (evaluateChain P n s).issued = s.issued ∧
    (evaluateChain P n s).tick.inputs = s.tick.inputs ∧
    (evaluateChain P n s).tick.bootAsserted = s.tick.bootAsserted ∧
    (evaluateChain P n s).tick.pressed = s.tick.pressed ∧ (evaluateChain P n s).tick.released = s.tick.released ∧
    (evaluateChain P n s).tick.shortPress = s.tick.shortPress ∧
    (evaluateChain P n s).tick.longPress = s.tick.longPress := by
  induction n generalizing s with
  | zero => exact ⟨rfl, rfl, rfl, rfl, rfl, rfl, rfl, rfl, rfl, rfl, rfl, rfl⟩
  | succ n ih =>
    rw [evaluateChain_succ]
    split
    · have h := ih (evaluatePhase P s)
      rw [evaluatePhase_eq] at h ⊢
      exact h
    · rw [evaluatePhase_eq]
      exact ⟨rfl, rfl, rfl, rfl, rfl, rfl, rfl, rfl, rfl, rfl, rfl, rfl⟩

/-- A tick leaves the pending script and the counter of the free stimulus alone. -/
theorem tick_environment (P : Params wHist wTime) (inp : TickInputs wTime) (s : State.Of wHist wTime) :
    (tick P inp s).script = s.script ∧ (tick P inp s).issued = s.issued := by
  have h := evaluateChain_frame P 3 (beforePhases P inp s)
  rw [tick_eq]
  exact ⟨h.2.2.2.2.1.trans (by rw [beforePhases_eq]), h.2.2.2.2.2.1.trans (by rw [beforePhases_eq])⟩

/-- The phase a tick dispatches: its own, or POWEROFF2 when `long_press` overrides it (43_sequencer.md R161). -/
theorem beforePhases_phase (P : Params wHist wTime) (inp : TickInputs wTime) (s : State.Of wHist wTime) :
    ((beforePhases P inp s).phase = s.phase ∧ (beforePhases P inp s).tick.longPress = false) ∨
    ((beforePhases P inp s).phase = .poweroff2 ∧ (beforePhases P inp s).tick.longPress = true) := by
  have key : ∀ (lp : Bool) (p q : Phase),
      ((if lp = true then q else p) = p ∧ lp = false) ∨ ((if lp = true then q else p) = q ∧ lp = true) := by
    intro lp p q
    cases lp <;> simp
  rw [beforePhases_eq]
  exact key _ _ _

/-- What steps 1 to 5 of a tick leave alone, and the values they start from (43_sequencer.md R160). -/
theorem beforePhases_frame (P : Params wHist wTime) (inp : TickInputs wTime) (s : State.Of wHist wTime) :
    (beforePhases P inp s).lastState = s.lastState ∧ (beforePhases P inp s).phaseTimer = s.phaseTimer ∧
    (beforePhases P inp s).en = s.en ∧ (beforePhases P inp s).shutdown = s.shutdown ∧
    (beforePhases P inp s).select = .script ∧ (beforePhases P inp s).tick.inputs = inp ∧
    (beforePhases P inp s).tick.evaluated = [] ∧ (beforePhases P inp s).tick.haltReq = false := by
  rw [beforePhases_eq]
  exact ⟨rfl, rfl, rfl, rfl, rfl, rfl, rfl, rfl⟩

/-- The machine that exec runs is the one of the default parameters (00_scope.md R9). -/
theorem exec_eq_execAt (i : Instr) (s : State) : exec i s = execAt Config.params i s := by cases i <;> rfl

/-- The instruction a phase selects is that phase's rule (43_sequencer.md R162). -/
theorem execAt_phase_instr (P : Params wHist wTime) (s : State.Of wHist wTime) :
    execAt P s.phase.instr s = .next (evaluatePhase P s) := by
  cases h : s.phase <;> simp only [Phase.instr, execAt, evaluatePhase, h] <;> rfl

theorem exec_phase_instr (s : State) : exec s.phase.instr s = .next (evaluatePhase Config.params s) := by
  rw [exec_eq_execAt, execAt_phase_instr]

/-- A pending script that begins with an instruction's bytes is not empty, and the instruction is run. -/
theorem runScript_of_decode {P : Params wHist wTime} {s : State.Of wHist wTime} {i : Instr wTime} {rest : List Byte}
    (run : Runner wHist wTime)
    (h : decodeAt P .op6 s.script = .ok (i, rest)) : runScript P run s = run i (s.setScript rest) := by
  simp only [runScript]
  split
  · rename_i he
    simp [he, decodeAt, decodeOp6] at h
  · rename_i b bs he
    rw [← he, h]

end Sys2Proof.Machine
end

