-- ==== Sys2Proof/Tests/Slice0.lean ====
section
/-! SUPPORT. Tests: expected values from the words of 30_encoding.md and the vectors V1 to V36 of 95_test_vectors.md,
and for every statement with hypotheses a state that meets them. -/

namespace Sys2Proof.Tests

open Sys2Proof Sys2Proof.Machine Host

/-- The state after an outcome, if there is one. -/
def after : Outcome State Fault Refusal → Option State
  | .next s => some s
  | .fault _ => none
  | .refused _ => none

/-- A state from the fields of a snapshot line (30_encoding.md R83); no tick yet. -/
def st (hist : Byte) (level last : Bool) (phase : Phase) (timer tp : Time) (ign en sd : Bool) : State :=
  { State.reset with
    history := hist, state := level, lastState := last, phase := phase, phaseTimer := timer, timePressed := tp,
    buttonIgnored := ign, en := en, shutdown := sd }

/-- A settled BOOT state, the start of V16 and V26. -/
def inBoot : State := st 0xFF#8 true true .boot 1040#32 0#32 false true false

/-- Parameters other than the defaults: a 16-bit time base, and the phase codes in the opposite order. -/
def reversedCodes : Params 8 16 := { phaseCodes := (Config.params 8 16).phaseCodes.reverse }

/-- A tick's inputs as a stimulus line gives them. -/
def line (now : Nat) (stb pw usb boot : Bool) : TickInputs 32 := ⟨BitVec.ofNat 32 now, stb, pw, usb, boot⟩

/-! ### Well-formedness -/

theorem test_reserved_phase_is_ill_formed : (Instr.phReserved : Instr).wellFormed = false := by decide
theorem test_default_params_valid : Config.params.valid = true := by decide
theorem test_pattern_outside_mask :
    Params.patternsInMask ({ debPressed := 0b11001000#8 } : Params 8 32) = false := by decide
theorem test_equal_patterns : Params.patternsDiffer ({ debReleased := 0b11000000#8 } : Params 8 32) = false := by decide
theorem test_settled_history_matches :
    Params.settledDoNotMatch ({ debDown := 0b11010000#8 } : Params 8 32) = false := by decide
/-- Two phases with one code, and a list that leaves a phase out. -/
theorem test_phase_codes_that_collide :
    Params.codesTellPhasesApart ({ phaseCodes := List.replicate 15 0#4 } : Params 8 32) = false ∧
    Params.codesTellPhasesApart ({ phaseCodes := [0#4] } : Params 8 32) = false := by decide
theorem test_threshold_at_margin : Params.rangeIsWide ({ tIdle := 0x01000000#32 } : Params 8 32) = true := by decide
theorem test_threshold_over_margin : Params.rangeIsWide ({ tIdle := 0x01000001#32 } : Params 8 32) = false := by decide

/-! ### Decoding: words written out from 30_encoding.md R71, R73, R74 -/

theorem test_decode_deb :
    decode .op6 [0b000000#8, 1#8] = .ok (.debUpdate true, []) ∧ decode .op6 [0b000001#8] = .ok (.debIsUp, []) ∧
    decode .op6 [0b000010#8] = .ok (.debIsDown, []) ∧ decode .op6 [0b000011#8] = .ok (.debIsPressed, []) ∧
    decode .op6 [0b000100#8] = .ok (.debIsReleased, []) := ⟨rfl, rfl, rfl, rfl, rfl⟩

theorem test_decode_ls :
    decode .op6 [0b001000#8, 0#8] = .ok (.lsUpdate false, []) ∧ decode .op6 [0b001001#8] = .ok (.lsIsHigh, []) ∧
    decode .op6 [0b001010#8] = .ok (.lsIsLow, []) ∧ decode .op6 [0b001011#8] = .ok (.lsWentHigh, []) ∧
    decode .op6 [0b001100#8] = .ok (.lsWentLow, []) := ⟨rfl, rfl, rfl, rfl, rfl⟩

theorem test_decode_tmr :
    decode .op6 [0b010000#8, 0x01#8, 0x02#8, 0x03#8, 0x04#8] = .ok (.tmrRecord 0x04030201#32, []) ∧
    decode .op6 [0b010001#8, 0xFF#8, 0#8, 0#8, 0#8] = .ok (.tmrElapsed 255#32, []) ∧
    decode .op6 [0b010010#8, 0#8, 0#8, 0#8, 0x80#8] = .ok (.tmrHeld 0x80000000#32, []) ∧
    decode .op6 [0b011000#8, 0#8, 1#8, 0#8, 0#8, 7#8] = .ok (.btnEvents 256#32, [7#8]) := ⟨rfl, rfl, rfl, rfl⟩

theorem test_decode_io :
    decode .op6 [0b100000#8] = .ok (.ioReadPower, []) ∧ decode .op6 [0b100001#8] = .ok (.ioReadUsb, []) ∧
    decode .op6 [0b100010#8] = .ok (.ioReadBoot, []) ∧ decode .op6 [0b100011#8] = .ok (.ioEnAssert, []) ∧
    decode .op6 [0b100100#8] = .ok (.ioEnDeassert, []) ∧ decode .op6 [0b100101#8] = .ok (.ioSdAssert, []) ∧
    decode .op6 [0b100110#8] = .ok (.ioSdDeassert, []) ∧ decode .op6 [0b100111#8] = .ok (.ioHalt, []) :=
  ⟨rfl, rfl, rfl, rfl, rfl, rfl, rfl, rfl⟩

/-- The stimulus word 0x000005DCE of R82's example, its low byte first. -/
theorem test_decode_seq :
    decode .op6 [0b101000#8, 0xCE#8, 0x5D#8, 0#8, 0#8, 0#8] = .ok (.seqTick (line 1500 true true true false), []) ∧
    decode .op6 [0b101001#8, 1#8] = .ok (.seqOverride true, []) ∧
    decode .op6 [0b101010#8, 9#8] = .ok (.seqReset, [9#8]) := ⟨by decide, rfl, rfl⟩

theorem test_decode_phases :
    [0b0000#8, 0b0001#8, 0b0010#8, 0b0011#8, 0b0100#8, 0b0101#8, 0b0110#8, 0b0111#8, 0b1000#8, 0b1001#8, 0b1010#8,
      0b1011#8, 0b1100#8, 0b1101#8, 0b1110#8, 0b1111#8].map (fun b => (decode .phase4 [b]).toOption.map Prod.fst)
    = [some .phStart, some .phPowerwait0, some .phPowerwait1, some .phPoweron, some .phBootwait0, some .phBootwait1,
      some .phBoot, some .phShutdown0, some .phShutdown1, some .phPoweroff0, some .phPoweroff1, some .phPoweroff2,
      some .phIdle0, some .phIdle1, some .phIdle2, some .phReserved] := by decide

theorem test_decode_hist :
    decodeHist 0b11010000#8 = some (.histPressed 0b010#3) ∧ decodeHist 0b00111111#8 = some (.histReleased 0b111#3) ∧
    decodeHist 0b00000000#8 = some .histDown ∧ decodeHist 0b11111111#8 = some .histUp ∧
    decodeHist 0b11000001#8 = none := by decide

theorem test_decode_rejects :
    decode .op6 [0b000101#8] = .error .unassigned ∧ decode .op6 [0b101011#8] = .error .unassigned ∧
    decode .op6 [0b000000#8, 2#8] = .error .padding ∧ decode .op6 [0b010000#8, 0#8] = .error .truncated ∧
    decode .phase4 [0x10#8] = .error .padding ∧ decode .hist8 [0xFE#8] = .error .noEvent := by
  refine ⟨rfl, rfl, rfl, rfl, rfl, rfl⟩

theorem test_table_words_of_operations :
    [0x00, 0x01, 0x08, 0x0B, 0x10, 0x18, 0x20, 0x27, 0x28, 0x2A].map (decodeTableWord 8)
    = [some (.debUpdate false), some .debIsUp, some (.lsUpdate false), some .lsWentHigh, some (.tmrRecord 0#32),
      some (.btnEvents 0#32), some .ioReadPower, some .ioHalt, some (.seqTick (line 0 false false false false)),
      some .seqReset] := by decide

theorem test_table_words_of_registers :
    decodeTableWord 4 0x6 = some .phBoot ∧ decodeTableWord 4 0xF = some .phReserved ∧
    decodeTableWord 8 0xC8 = some (.histPressed 0b001#3) ∧ decodeTableWord 8 0xFF = some .histUp := by decide

/-! ### Fetching -/

theorem test_fetch_word_operation :
    after (step (State.reset.withFetchWord 8 0x23)) = after (exec .ioEnAssert State.reset) := by decide
theorem test_fetch_word_phase :
    (after (step (State.reset.withFetchWord 4 0x3))).map (fun t => (t.phase, t.en)) = some (.bootwait0, true) := by
  decide
theorem test_fetch_word_history : (after (step (State.reset.withFetchWord 8 0xE8))).map (·.history) = some 0x00#8 := by
  decide
theorem test_fetch_word_reserved : step (State.reset.withFetchWord 4 0xF) = .refused .reservedPhase := rfl
theorem test_fetch_unassigned : step (State.reset.withFetchWord 8 0x2B) = .refused .unassignedOperation := rfl

/-- A `REPEAT` adds `step` to `now` (30_encoding.md R82); the first two words of P1. -/
theorem test_repeat :
    (ScriptLine.repeatTick 2 10#32 (line 0 true true true true)).expand
    = [.seqTick (line 0 true true true true), .seqTick (line 10 true true true true)] := by decide

/-! ### The units, one operation each -/

/-- V1. -/
theorem test_deb_update :
    (after (exec (.debUpdate true) (st 0xAA#8 false false .start 0 0 false false false))).map (·.history)
    = some 0x55#8 := by decide
/-- V2. -/
theorem test_deb_is_up : (after (exec .debIsUp inBoot)).map (fun t => t.tick.result) = some (.bit true) := by decide
theorem test_deb_is_down : (after (exec .debIsDown inBoot)).map (fun t => t.tick.result) = some (.bit false) := by
  decide
theorem test_deb_is_pressed :
    (after (exec .debIsPressed (st 0xF8#8 true true .boot 0 0 false true false))).map
      (fun t => (t.tick.result, t.history)) = some (.bit true, 0x00#8) := by decide
theorem test_deb_is_pressed_not :
    (after (exec .debIsPressed (st 0xC1#8 true true .boot 0 0 false true false))).map
      (fun t => (t.tick.result, t.history)) = some (.bit false, 0xC1#8) := by decide
theorem test_deb_is_released :
    (after (exec .debIsReleased (st 0x3F#8 true true .boot 0 0 false true false))).map
      (fun t => (t.tick.result, t.history)) = some (.bit true, 0xFF#8) := by decide
/-- V11. -/
theorem test_ls_update :
    (after (exec (.lsUpdate false) inBoot)).map (fun t => (t.state, t.lastState)) = some (false, true) := by decide
theorem test_ls_levels :
    (after (exec .lsIsHigh inBoot)).map (fun t => t.tick.result) = some (.bit true) ∧
    (after (exec .lsIsLow inBoot)).map (fun t => t.tick.result) = some (.bit false) := by decide
theorem test_ls_went_high :
    (after (exec .lsWentHigh (st 0 true false .boot 0 0 false true false))).map
      (fun t => (t.tick.result, t.lastState)) = some (.bit true, true) := by decide
theorem test_ls_went_low_consumes_the_other_edge :
    (after (exec .lsWentLow (st 0 true false .boot 0 0 false true false))).map
      (fun t => (t.tick.result, t.lastState)) = some (.bit false, true) := by decide
/-- V14, V15. -/
theorem test_tmr_record : (after (exec (.tmrRecord 1040#32) State.reset)).map (·.phaseTimer) = some 1040#32 := by
  decide
theorem test_tmr_elapsed_wraps :
    (after (exec (.tmrElapsed 0x00000010#32) (st 0 true true .boot 0xFFFFFFF0#32 0 false true false))).map
      (fun t => t.tick.result) = some (.time 32#32) := by decide
theorem test_tmr_held :
    (after (exec (.tmrHeld 12019#32) (st 0 true true .boot 0 10020#32 false true false))).map
      (fun t => t.tick.result) = some (.time 1999#32) := by decide
/-- V18, both cases. -/
theorem test_btn_events_short :
    (after (exec (.btnEvents 11999#32) (st 0x07#8 true true .boot 0 10000#32 false true false))).map
      (fun t => (t.tick.result, t.history)) = some (.events true false, 0xFF#8) := by decide
theorem test_btn_events_at_threshold :
    (after (exec (.btnEvents 12000#32) (st 0x07#8 true true .boot 0 10000#32 false true false))).map
      (fun t => (t.tick.result, t.history)) = some (.events false false, 0xFF#8) := by decide
/-- V36; the BOOT result as 44_gpio.md R203 gives it. -/
theorem test_io_reads :
    (after (exec .ioReadPower State.reset)).map (fun t => t.tick.result) = some (.bit true) ∧
    (after (exec .ioReadUsb State.reset)).map (fun t => t.tick.result) = some (.bit false) ∧
    (after (exec .ioReadBoot State.reset)).map (fun t => t.tick.bootAsserted) = some false := by decide
theorem test_io_en :
    (after (exec .ioEnAssert State.reset)).map (·.en) = some true ∧
    (after (exec .ioEnDeassert inBoot)).map (·.en) = some false := by decide
theorem test_io_sd :
    (after (exec .ioSdAssert inBoot)).map (fun t => (t.shutdown, t.en)) = some (true, true) ∧
    (after (exec .ioSdDeassert (inBoot.setShutdown true))).map (·.shutdown) = some false := by decide
theorem test_io_halt :
    (after (exec .ioHalt inBoot)).map (fun t => (t.tick.haltReq, t.phase)) = some (true, .boot) := by decide
theorem test_seq_override :
    (after (exec (.seqOverride true) inBoot)).map (fun t => (t.phase, t.buttonIgnored, t.en))
    = some (.poweroff2, true, true) := by decide
/-- V36, SEQ.RESET. -/
theorem test_seq_reset :
    (after (exec .seqReset (st 0x3A#8 true true .shutdown1 77777 4242 true true true))).map (snapshot Config.params)
    = some "hist=FF st=0 last=0 phase=START(0) timer=0 tp=0 ign=0 en=0 sd=0" := by decide
theorem test_hist_decodes :
    (after (exec (.histPressed 5#3) State.reset)).map (·.history) = some 0x00#8 ∧
    (after (exec (.histReleased 5#3) State.reset)).map (·.history) = some 0xFF#8 ∧
    (after (exec .histDown State.reset)).map (fun t => t.tick.result) = some (.bit true) ∧
    (after (exec .histUp State.reset)).map (fun t => t.tick.result) = some (.bit true) := by decide

/-! ### The phases: a tick each, from the vectors -/

/-- The phase, the timer and the outputs that a tick leaves. -/
def ticked (s : State) (inp : TickInputs 32) : Option (Phase × Time × Bool × Bool) :=
  (after (exec (.seqTick inp) s)).map fun t => (t.phase, t.phaseTimer, t.en, t.shutdown)

/-- V22. -/
theorem test_start :
    ticked State.reset (line 0 true true true true) = some (.powerwait0, 0#32, false, false) ∧
    ticked State.reset (line 0 false true true true) = some (.poweroff2, 0#32, false, false) := by decide
/-- V23. -/
theorem test_powerwait0 :
    ticked (st 0xFF#8 true false .powerwait0 0 0 false false false) (line 10 true true true true)
    = some (.powerwait1, 10#32, false, false) := by decide
theorem test_powerwait1 :
    ticked (st 0xFF#8 true true .powerwait1 10 0 false false false) (line 1010 true true true true)
      = some (.powerwait1, 10#32, false, false) ∧
    ticked (st 0xFF#8 true true .powerwait1 10 0 false false false) (line 2000 true true false true)
      = some (.poweroff2, 10#32, false, false) := by decide
/-- V25. -/
theorem test_poweron :
    ticked (st 0xFF#8 true true .poweron 10 0 false false false) (line 1030 true true true true)
    = some (.bootwait0, 10#32, true, false) := by decide
theorem test_bootwait0 :
    ticked (st 0xFF#8 true true .bootwait0 10 0 false true false) (line 1040 true true true true)
    = some (.bootwait1, 1040#32, true, false) := by decide
theorem test_bootwait1 :
    ticked (st 0xFF#8 true true .bootwait1 1040 0 false true false) (line 1500 true true true false)
      = some (.boot, 1040#32, true, false) ∧
    ticked (st 0xFF#8 true true .bootwait1 1040 0 false true false) (line 31041 true true true false)
      = some (.poweroff2, 1040#32, true, false) := by decide
/-- V26. -/
theorem test_boot :
    ticked inBoot (line 5000 true true false true) = some (.shutdown0, 1040#32, true, false) ∧
    ticked inBoot (line 5000 true true true true) = some (.poweroff0, 1040#32, true, false) := by decide
/-- V27. -/
theorem test_shutdown0 :
    ticked (st 0xFF#8 true true .shutdown0 1040 0 false true false) (line 5010 true true true false)
    = some (.shutdown1, 5010#32, true, true) := by decide
theorem test_shutdown1 :
    ticked (st 0xFF#8 true true .shutdown1 5010 0 false true true) (line 35010 true true true false)
      = some (.shutdown1, 5010#32, true, true) ∧
    ticked (st 0xFF#8 true true .shutdown1 5010 0 false true true) (line 5020 true true true true)
      = some (.poweroff0, 5010#32, true, true) := by decide
/-- V28. -/
theorem test_poweroff0_chains :
    ticked (st 0xFF#8 true true .poweroff0 5010 0 false true true) (line 35021 true true true false)
    = some (.boot, 35021#32, true, false) := by decide
theorem test_poweroff1 :
    ticked (st 0xFF#8 true true .poweroff1 10020 0 false true false) (line 40020 true true true true)
      = some (.poweroff1, 10020#32, true, false) ∧
    ticked (st 0xFF#8 true true .poweroff1 10020 0 false true false) (line 40021 true true true false)
      = some (.poweroff2, 10020#32, true, false) := by decide
/-- V29. -/
theorem test_poweroff2 :
    ticked (st 0xFF#8 true true .poweroff2 10020 0 false true true) (line 40030 true true true true)
    = some (.idle0, 10020#32, false, false) := by decide
/-- V30; PH.IDLE0, PH.IDLE1 and PH.IDLE2 in one tick. -/
theorem test_idle_chain :
    (after (exec (.seqTick (line 40040 true true false true)) (st 0xFF#8 false false .idle0 10020 0 false false false))).map
      (fun t => (snapshot Config.params t, tickReport t))
    = some ("hist=FF st=0 last=0 phase=IDLE2(14) timer=40040 tp=0 ign=0 en=0 sd=0",
      "p=0 r=0 sp=0 lp=0 halt=1 eval=IDLE0>IDLE1>IDLE2") := by decide
theorem test_idle1_chains :
    (after (exec .phIdle1 (st 0xFF#8 false false .idle1 10020 0 false false false))).map (fun t => (t.phase, t.select))
    = some (.idle2, .phaseRegister) := by decide
/-- V31. -/
theorem test_idle2 :
    ticked (st 0xFF#8 false false .idle2 40040 0 false false false) (line 45041 true true true true)
      = some (.idle0, 40040#32, false, false) ∧
    ticked (st 0x03#8 true true .idle2 40040 40500 false false false) (line 41000 true true true true)
      = some (.poweron, 40040#32, false, false) := by decide
/-- V17: the override. -/
theorem test_long_press :
    (after (exec (.seqTick (line 12020 true false true false)) (st 0x00#8 true true .boot 1040 10020 false true false))).map
      (fun t => (snapshot Config.params t, tickReport t))
    = some ("hist=00 st=1 last=1 phase=IDLE0(12) timer=1040 tp=10020 ign=1 en=0 sd=0",
      "p=0 r=0 sp=0 lp=1 halt=0 eval=POWEROFF2") := by decide

/-! ### Witnesses: states that meet the statements' hypotheses -/

theorem witness_encode_inverts_decode :
    decode .op6 [0b001000#8, 1#8, 3#8] = .ok (.lsUpdate true, [3#8]) ∧
    decode .phase4 [0xF#8] = .ok (.phReserved, []) ∧
    decode .hist8 [0x07#8] = .ok (.histReleased 0#3, []) ∧
    decodeAt (Config.params 12 16) .op6 [0b010000#8, 0x10#8, 0x04#8, 9#8] = .ok (.tmrRecord 1040#16, [9#8]) :=
  ⟨rfl, rfl, rfl, rfl⟩

/-- The second clause of the round trip: an operation at any codes, a phase at codes that differ. -/
theorem witness_decode_inverts_encode :
    formatOf (.tmrRecord 1040#16 : Instr 16) = .op6 ∧ formatOf (.phReserved : Instr 16) = .phase4 ∧
    (Config.params 12 16).codesTellPhasesApart = true ∧ reversedCodes.codesTellPhasesApart = true := by decide

theorem witness_reserved_phase_selected : (State.reset.setSelect .reservedCode).select = .reservedCode := rfl

/-- The first unassigned identifier, the last assigned one plus one, and a byte beyond six bits. -/
theorem witness_unassigned_operation :
    ((State.reset.setScript [0b000101#8]).select = .script ∧
      (State.reset.setScript [0b000101#8]).script = 0b000101#8 :: []) ∧
    (∀ i : Instr, formatOf i = .op6 → (encode i).head? ≠ some 0b000101#8) ∧
    (∀ i : Instr, formatOf i = .op6 → (encode i).head? ≠ some 0b101011#8) ∧
    (∀ i : Instr, formatOf i = .op6 → (encode i).head? ≠ some 0xFF#8) := by
  refine ⟨⟨rfl, rfl⟩, fun i hi => ?_, fun i hi => ?_, fun i hi => ?_⟩ <;> cases i <;>
    first | (simp [encode, encodeAt]; done) | cases hi

theorem witness_step_runs_the_decoded_operation :
    (State.reset.setScript (encode (.tmrRecord 1040#32))).select = .script ∧
    decode .op6 (State.reset.setScript (encode (.tmrRecord 1040#32))).script = .ok (.tmrRecord 1040#32, []) :=
  ⟨rfl, rfl⟩

theorem witness_step_runs_the_register_selected_rule :
    (inBoot.setSelect .phaseRegister).select = .phaseRegister ∧
    ((inBoot.setHistory 0xF8#8).setSelect .historyRegister).select = .historyRegister ∧
    decode .hist8 [((inBoot.setHistory 0xF8#8).setSelect .historyRegister).history] = .ok (.histPressed 0b111#3, []) ∧
    decode .hist8 [((inBoot.setHistory 0xFE#8).setSelect .historyRegister).history] = .error .noEvent :=
  ⟨rfl, rfl, rfl, rfl⟩

theorem witness_step_without_script : State.reset.select = .script ∧ State.reset.script = [] := ⟨rfl, rfl⟩

theorem witness_legal_instructions :
    (Instr.phIdle2 : Instr).wellFormed = true ∧ (Instr.histPressed 0#3 : Instr).wellFormed = true := by decide

/-- The lowest and the highest bit that moves up, in 8 bits and in 12. -/
theorem witness_deb_update_bits : ((0 : Nat) < 7 ∧ (6 : Nat) < 7) ∧ (0 : Nat) < 12 ∧ (10 : Nat) + 1 < 12 := by decide

theorem witness_deb_event_queries :
    (∃ mid : BitVec 3, 0xC0#8 = 0b11#2 ++ mid ++ 0b000#3) ∧ (∃ mid : BitVec 3, 0xF8#8 = 0b11#2 ++ mid ++ 0b000#3) ∧
    (∀ mid : BitVec 3, 0xC1#8 ≠ 0b11#2 ++ mid ++ 0b000#3) ∧
    (∃ mid : BitVec 3, 0x07#8 = 0b00#2 ++ mid ++ 0b111#3) ∧ (∃ mid : BitVec 3, 0x3F#8 = 0b00#2 ++ mid ++ 0b111#3) ∧
    (∀ mid : BitVec 3, 0x06#8 ≠ 0b00#2 ++ mid ++ 0b111#3) := by decide

theorem witness_history_decodes_act :
    decodeHist (inBoot.setHistory 0xC8#8).history = some (.histPressed 1#3) ∧
    decodeHist (inBoot.setHistory 0x3F#8).history = some (.histReleased 7#3) ∧
    decodeHist (inBoot.setHistory 0x00#8).history = some .histDown ∧ decodeHist inBoot.history = some .histUp := by
  decide

/-- Without two consecutive highs, with them at the window's old end, and settled up. -/
theorem witness_bounce :
    (0xF5#8).getLsbD 0 = true ∧ (0x19#8).getLsbD 0 = true ∧
    ((0x19#8).getLsbD 3 = true ∧ (0x19#8).getLsbD 4 = true) ∧
    (debounce Config.params 0x19#8 (List.replicate 8 false))[2]? = some (true, false) := by decide

theorem witness_edge_latch :
    (Instr.lsWentHigh : Instr) ∈ [Instr.lsWentHigh, .lsWentLow] ∧
    (Instr.lsWentLow : Instr) ∈ [Instr.lsWentHigh, .lsWentLow] := by decide

/-- At the ends of the range: no time at all, and the longest interval, over a wrap; and in 16 bits. -/
theorem witness_time_subtraction :
    (0 : Nat) < 2 ^ 32 ∧ (4294967295 : Nat) < 2 ^ 32 ∧
    (timeSince (BitVec.ofNat 32 (4294967290 + 4294967295)) (BitVec.ofNat 32 4294967290)).toNat = 4294967295 ∧
    (30001 : Nat) < 2 ^ 16 ∧
    timedOut (timeSince (BitVec.ofNat 16 (65000 + 30001)) (BitVec.ofNat 16 65000)) (BitVec.ofNat 16 30000) = true := by
  decide

theorem witness_button_events :
    (0xC0#8 &&& 0xC7#8 = 0xC0#8 ∧ 0xF8#8 &&& 0xC7#8 = 0xC0#8) ∧
    (0x07#8 &&& 0xC7#8 = 0x07#8 ∧ 0x3F#8 &&& 0xC7#8 = 0x07#8) ∧
    (0x00#8 &&& 0xC7#8 ≠ 0xC0#8 ∧ 0x00#8 &&& 0xC7#8 ≠ 0x07#8) ∧
    (0xFF#8 &&& 0xC7#8 ≠ 0xC0#8 ∧ 0xFF#8 &&& 0xC7#8 ≠ 0x07#8) := by
  decide

/-- V35, the fourth case, as a list of two ticks. -/
theorem witness_long_press_once :
    (st 0x00#8 true true .idle2 32010 30000 true false false).buttonIgnored = true ∧
    (tickTrace Config.params [line 33000 true false true true, line 33010 true false true true]
      (st 0x00#8 true true .idle2 32010 30000 true false false)).all (fun t => !t.tick.released) = true := by decide

theorem witness_halt_enable :
    Params.haltEnable ({ haltEnable := false } : Params 8 32) = false ∧ Config.params.haltEnable = true := by decide

/-- V32, from BOOT and from IDLE1, and from SHUTDOWN1 with SHUTDOWN asserted. -/
theorem witness_override_tick :
    [st 0x00#8 true true .boot 9000 8000 false true false, st 0x00#8 true true .idle1 9000 8000 false false false,
      st 0x00#8 true true .shutdown1 9000 8000 false true true].map
      (fun s => (tick Config.params (line 10000 true false true false) s).tick.longPress) = [true, true, true] := by
  decide

theorem witness_sampling :
    (line 0 true true true true).sampleStb = true ∧ (line 0 false true true true).sampleStb = false := by decide

theorem witness_short_press_elsewhere : State.reset.phase ≠ .boot ∧ State.reset.phase ≠ .idle2 := by decide

theorem witness_latches_change :
    (tick Config.params (line 1030 true true true true) (st 0xFF#8 true true .poweron 10 0 false false false)).en ≠ false ∧
    (tick Config.params (line 5010 true true true false) (st 0xFF#8 true true .shutdown0 1040 0 false true false)).shutdown
      ≠ false ∧
    (tick Config.params (line 35021 true true true false) (st 0xFF#8 true true .poweroff0 5010 0 false true true)).shutdown
      ≠ true := by decide

theorem witness_shutdown_request :
    OutputsFitPhase (st 0xFF#8 true true .shutdown0 1040 0 false true false) ∧
    Phase.shutdown0 ∈ (tick Config.params (line 5010 true true true false)
      (st 0xFF#8 true true .shutdown0 1040 0 false true false)).tick.evaluated :=
  ⟨⟨by decide, by decide, by decide, by decide, by decide⟩, by decide⟩

theorem witness_halt_request :
    OutputsFitPhase (st 0xFF#8 false false .idle0 10020 0 false false false) ∧
    (tick Config.params (line 40040 true true false true)
      (st 0xFF#8 false false .idle0 10020 0 false false false)).tick.haltReq = true :=
  ⟨⟨by decide, by decide, by decide, by decide, by decide⟩, by decide⟩

theorem witness_poweroff_reaches_idle :
    (st 0xFF#8 true true .poweroff2 10020 0 false true true).phase = .poweroff2 ∧
    (tick Config.params (line 40040 true true true true) (tick Config.params (line 40030 true true true true)
      (st 0xFF#8 true true .poweroff2 10020 0 false true true))).tick.longPress = false := by decide

/-- P1 and P5: the first ticks with upstream power, and without; and a first tick that is not sampled, the other two
sampling a high USB. -/
theorem witness_first_ticks :
    ((line 0 true true true true).sampleStb = true ∧ (line 0 true true true true).pinUsb = true) ∧
    ((line 0 true true false true).pinUsb = false ∧ (line 0 false true true true).sampleStb = false) ∧
    (runTicks Config.params [line 0 false true true true, line 10 true true true true, line 20 true true true true]
      State.reset).phase = .poweron ∧
    (runTicks Config.params [line 0 true true false true, line 10 true true false true, line 20 true true false true]
      State.reset).phase = .idle2 := by decide

theorem witness_step_keeps_invariant :
    Inv (inBoot.setScript (scriptBytes [.tick (line 5000 true true true false), .reset])) where
  outputs := ⟨by decide, by decide, by decide, by decide, by decide⟩
  between_ticks := rfl
  stimulus := ⟨[.seqTick (line 5000 true true true false), .seqReset],
    by simp [IsStimulus], rfl⟩

/-- The second clause: reset in the machine of other parameters, a tick of a 16-bit time base pending. -/
theorem witness_step_keeps_invariant_at :
    InvAt reversedCodes ((resetAt reversedCodes).setScript
      (scriptBytesAt reversedCodes [.tick ⟨5#16, true, true, true, true⟩])) where
  outputs := ⟨by decide, by decide, by decide, by decide, by decide⟩
  between_ticks := rfl
  stimulus := ⟨[.seqTick ⟨5#16, true, true, true, true⟩], by simp [IsStimulus], rfl⟩

theorem witness_script_runs : inBoot.select = .script := rfl

/-! ### The halt -/

/-- V34's halt from 50010: the button, low all along in the sampled ticks, is let go and pressed again, and the next
tick, at 58000, reads the levels of the halting tick. -/
def v34Halt : Halt 32 where
  start := line 50010 true false true true
  begins := 5
  keepsPending := false
  changes := [⟨6990, ⟨true, true, true⟩⟩, ⟨7490, ⟨false, true, true⟩⟩]
  ended := some ⟨7000, 7990, line 58000 true false true true⟩

/-- V34: levels that agree at both ticks, and a wake event between them; the contracts hold of it. -/
theorem test_wake_by_an_edge_that_reverts :
    tickLevels (line 58000 true false true true) = tickLevels v34Halt.start ∧
    v34Halt.wakeTimes Config.params = [6990, 7490] ∧ v34Halt.inOrder = true ∧
    v34Halt.clockFits ({ clockRunsInHalt := true } : Params 8 32) = true ∧
    haltsMeet Config.params (fun h => h.endsAfterWake Config.params && h.fair Config.params 1000)
      (st 0xFE#8 true true .idle0 40040 0 false false false)
      [line 50010 true false true true, line 58000 true false true true] [v34Halt] = true := by decide

/-- An edge in the entry window is a wake event only if it is kept pending (70_reset_and_hazards.md R266). -/
theorem test_wake_in_the_entry_window :
    ({ v34Halt with begins := 8000 } : Halt 32).wakeTimes Config.params = [] ∧
    ({ v34Halt with begins := 8000, keepsPending := true } : Halt 32).wakeTimes Config.params = [6990, 7490] ∧
    ({ v34Halt with begins := 8000 } : Halt 32).endsAfterWake Config.params = false ∧
    ({ v34Halt with ended := none } : Halt 32).fair Config.params 1000 = false := by decide

theorem witness_wake_event :
    PinChange.mk 0 (tickLevels v34Halt.start) :: v34Halt.changes
      = [] ++ ⟨0, ⟨false, true, true⟩⟩ :: ⟨6990, ⟨true, true, true⟩⟩ :: [⟨7490, ⟨false, true, true⟩⟩] ∧
    Pin.power ∈ Config.params.wakePins ∧
    inputLevel ⟨false, true, true⟩ .power ≠ inputLevel ⟨true, true, true⟩ .power ∧
    (v34Halt.keepsPending = true ∨ v34Halt.begins ≤ 6990) ∧ v34Halt.fair Config.params 1000 = true ∧
    v34Halt.endsAfterWake Config.params = true ∧ v34Halt.ended.isSome = true := by decide

/-- V31's IDLE2 with no event at the threshold and over it, and with USB risen. -/
theorem witness_idle2_after_a_wake :
    (let s := st 0xFF#8 true true .idle2 40040 0 false false false
     let t := tick Config.params (line 45040 true true true true) s
     let u := tick Config.params (line 45041 true true true true) s
     s.phase = .idle2 ∧ t.tick.longPress = false ∧ t.tick.shortPress = false ∧ s.lastState = true ∧
       t.phase = .idle2 ∧ u.phase = .idle0) ∧
    (let s := st 0xFF#8 false false .idle2 40040 0 false false false
     let inp := line 45040 true true true true
     s.phase = .idle2 ∧ (tick Config.params inp s).tick.longPress = false ∧ inp.sampleStb = true ∧
       inp.pinUsb = true ∧ s.lastState = false ∧ ¬ Config.params.tIdle < inp.now - s.phaseTimer) := by decide

/-! ### Other parameters -/

/-- A script decoded with a 16-bit time base, and histories of 12 bits that match a pattern and that do not. -/
theorem witness_machine_takes_its_parameters :
    (Instr.tmrRecord 1040#16 : Instr 16).wellFormed = true ∧
    decodeAt reversedCodes .op6 ((resetAt reversedCodes).setScript [0b010000#8, 0x10#8, 0x04#8]).script
      = .ok (.tmrRecord 1040#16, []) ∧
    ((resetAt reversedCodes).setScript [0b010000#8, 0x10#8, 0x04#8]).select = .script ∧
    ((resetAt reversedCodes).setSelect .phaseRegister).select = .phaseRegister ∧
    reversedCodes.codesTellPhasesApart = true ∧ v34Halt.ended.isSome = true ∧
    (let P := Config.params 12 16
     (0b000011010000#12 &&& P.debMask = P.debPressed ∧ 0b000011010000#12 &&& P.debMask ≠ P.debReleased) ∧
     (0b111100101111#12 &&& P.debMask = P.debReleased ∧ 0b111100101111#12 &&& P.debMask ≠ P.debPressed) ∧
     (0b000011111111#12 &&& P.debMask ≠ P.debPressed ∧ 0b000011111111#12 &&& P.debMask ≠ P.debReleased)) := by
  decide

/-- `HALT_ENABLE` false: neither IO.HALT nor PH.IDLE0 requests the wait (44_gpio.md R207, 43_sequencer.md R177). -/
theorem test_halt_disabled :
    [Instr.ioHalt, .phIdle0].map (fun i =>
      match execAt ({ haltEnable := false } : Params 8 32) i State.reset with
      | .next t => some (t.tick.haltReq, t.phase)
      | _ => none)
    = [some (false, .start), some (false, .idle1)] := by decide

/-- At a threshold of 2001 ms a hold of 2000 ms is short (V18 at another `T_LONG_PRESS`; 42_timer_button.md R145). -/
theorem test_long_press_threshold :
    (match execAt ({ tLongPress := 2001#32 } : Params 8 32) (.btnEvents 12000#32)
        (st 0x07#8 true true .boot 0 10000#32 false true false) with
      | .next t => some t.tick.result
      | _ => none) = some (.events true false) := by decide

/-- After a chain the code of the phase selects the rule, whatever the codes are (43_sequencer.md R162). -/
theorem test_step_at_other_codes :
    Phase.codeAt reversedCodes .idle2 = 0b0000#4 ∧ Phase.ofCodeAt reversedCodes 0b1110#4 = some .start ∧
    encodeAt reversedCodes .phIdle2 = [0b0000#8] ∧ encodeAt reversedCodes .phReserved = [0b1111#8] := by decide

end Sys2Proof.Tests
end

/-! SUPPORT. The machine at every value of the parameters of 00_scope.md R9: how the phase codes decode, what each
instruction that reads a parameter does, and where the environment's contracts read theirs. -/

namespace Sys2Proof

variable {wHist wTime : Nat}

/-! ### The phase codes -/

theorem Phase.all_getElem?_index (p : Phase) : Phase.all[p.index]? = some p := by cases p <;> rfl

theorem Phase.index_lt (p : Phase) : p.index < 15 := by cases p <;> decide

theorem Phase.index_injective : Function.Injective Phase.index := by
  intro p q h
  have hp := Phase.all_getElem?_index p
  rw [h, Phase.all_getElem?_index q] at hp
  exact (Option.some.inj hp).symm

/-- Codes that tell the phases apart give no code to two phases (30_encoding.md R71). -/
theorem Phase.codeAt_injective {P : Params wHist wTime} (h : P.codesTellPhasesApart = true) :
    Function.Injective (Phase.codeAt P) := by
  obtain ⟨hlen, hnodup⟩ : P.phaseCodes.length = 15 ∧ P.phaseCodes.Nodup := by
    simpa [Params.codesTellPhasesApart] using h
  have hcode : ∀ p : Phase, ∃ hp : p.index < P.phaseCodes.length, p.codeAt P = P.phaseCodes[p.index] := fun p =>
    have hp : p.index < P.phaseCodes.length := hlen ▸ p.index_lt
    ⟨hp, (List.getElem_eq_getD _).symm⟩
  intro p q hpq
  obtain ⟨hp, hpc⟩ := hcode p
  obtain ⟨hq, hqc⟩ := hcode q
  rw [hpc, hqc] at hpq
  exact Phase.index_injective (hnodup.getElem_inj_iff.mp hpq)

/-- Then each code gives back its phase. -/
theorem Phase.ofCodeAt_codeAt {P : Params wHist wTime} (h : P.codesTellPhasesApart = true) (p : Phase) :
    Phase.ofCodeAt P (p.codeAt P) = some p := by
  have hpred : (fun q : Phase => q.codeAt P == p.codeAt P) = fun q => decide (q = p) := by
    funext q
    exact decide_eq_decide.mpr (Phase.codeAt_injective h).eq_iff
  rw [Phase.ofCodeAt, hpred]
  cases p <;> rfl

/-- The four bits of a code survive the byte they are put in (30_encoding.md R70). -/
theorem decodePhase4_of_ofCodeAt {P : Params wHist wTime} {c : BitVec 4} {p : Phase} (h : Phase.ofCodeAt P c = some p)
    (rest : List Byte) : decodePhase4 (wTime := wTime) P (c.setWidth 8 :: rest) = .ok (p.instr, rest) := by
  have hhigh : ∀ c : BitVec 4, (c.setWidth 8 >>> 4 == 0#8) = true := by decide
  have hlow : ∀ c : BitVec 4, (c.setWidth 8).setWidth 4 = c := by decide
  simp only [decodePhase4, hhigh, hlow, h, if_true]

theorem decodeAt_phase4_codeAt {P : Params wHist wTime} (h : P.codesTellPhasesApart = true) (p : Phase)
    (rest : List Byte) : decodeAt P .phase4 ((p.codeAt P).setWidth 8 :: rest) = .ok (p.instr, rest) :=
  decodePhase4_of_ofCodeAt (Phase.ofCodeAt_codeAt h p) rest

end Sys2Proof

namespace Sys2Proof.Machine

open Sys2Proof

variable {wHist wTime : Nat}

/-! ### The machine at the defaults, and steps -/

theorem step_eq_stepAt (s : State) : step s = stepAt Config.params s := by
  have hrun : exec = execAt Config.params := funext fun i => funext (exec_eq_execAt i)
  rw [step, stepAt, hrun]

/-- No legal instruction faults or is refused, whatever the parameters are (60_exceptions.md R220). -/
theorem execAt_completes (P : Params wHist wTime) (i : Instr wTime) (s : State.Of wHist wTime)
    (h : i.wellFormed = true) : ∃ t, execAt P i s = .next t := by
  cases i
  case phReserved => cases h
  all_goals exact ⟨_, rfl⟩

theorem stepAt_of_decode {P : Params wHist wTime} {s : State.Of wHist wTime} {i : Instr wTime} {rest : List Byte}
    (hsel : s.select = .script) (h : decodeAt P .op6 s.script = .ok (i, rest)) :
    stepAt P s = execAt P i (s.setScript rest) := by
  rw [stepAt, fetchAndRun, hsel]
  exact runScript_of_decode _ h

theorem stepAt_of_phaseRegister (P : Params wHist wTime) {s : State.Of wHist wTime} (hsel : s.select = .phaseRegister) :
    stepAt P s = execAt P s.phase.instr (s.setSelect .script) := by
  rw [stepAt, fetchAndRun, hsel]

/-! ### Comparisons -/

theorem matchesPressed_iff (P : Params wHist wTime) (h : History wHist) :
    matchesPressed P h = true ↔ h &&& P.debMask = P.debPressed := beq_iff_eq

theorem matchesReleased_iff (P : Params wHist wTime) (h : History wHist) :
    matchesReleased P h = true ↔ h &&& P.debMask = P.debReleased := beq_iff_eq

theorem matchesPressed_eq_false_iff (P : Params wHist wTime) (h : History wHist) :
    matchesPressed P h = false ↔ h &&& P.debMask ≠ P.debPressed := beq_eq_false_iff_ne

theorem matchesReleased_eq_false_iff (P : Params wHist wTime) (h : History wHist) :
    matchesReleased P h = false ↔ h &&& P.debMask ≠ P.debReleased := beq_eq_false_iff_ne

/-- A wait is over when the time since its stamp exceeds the threshold (42_timer_button.md R148). -/
theorem waitOver_iff_lt (t : Time wTime) (s : State.Of wHist wTime) :
    waitOver t s = true ↔ t < s.tick.inputs.now - s.phaseTimer := decide_eq_true_iff

theorem pinLevel_eq_beq (active latch : Bool) : pinLevel active latch = (latch == active) := by
  cases active <;> cases latch <;> rfl

/-! ### The debouncer -/

/-- The sample becomes the lowest bit (40_debouncer.md R100). -/
theorem shiftIn_getLsbD_zero (h : History wHist) (x : Bool) (hw : 0 < wHist) : (shiftIn h x).getLsbD 0 = x := by
  rw [shiftIn_getLsbD, decide_eq_true hw, Bool.true_and, if_pos rfl]

/-- Every other bit comes from the one below it (40_debouncer.md R100). -/
theorem shiftIn_getLsbD_succ (h : History wHist) (x : Bool) {k : Nat} (hk : k + 1 < wHist) :
    (shiftIn h x).getLsbD (k + 1) = h.getLsbD k := by
  rw [shiftIn_getLsbD, decide_eq_true hk, Bool.true_and, if_neg k.succ_ne_zero, Nat.add_sub_cancel]

theorem execAt_debUpdate (P : Params wHist wTime) (x : Bool) (s : State.Of wHist wTime) :
    execAt P (.debUpdate x) s =
      .next { s with history := shiftIn s.history x, tick := { s.tick with result := .none } } := rfl

theorem execAt_debIsPressed (P : Params wHist wTime) (s : State.Of wHist wTime) :
    execAt P .debIsPressed s = .next { s with
      history := if matchesPressed P s.history then P.debDown else s.history
      tick := { s.tick with result := .bit (matchesPressed P s.history) } } := by
  rw [execAt, execDebIsPressed, settlePressed_eq, withResult_eq]

theorem execAt_debIsReleased (P : Params wHist wTime) (s : State.Of wHist wTime) :
    execAt P .debIsReleased s = .next { s with
      history := if matchesReleased P s.history then P.debUp else s.history
      tick := { s.tick with result := .bit (matchesReleased P s.history) } } := by
  rw [execAt, execDebIsReleased, settleReleased_eq, withResult_eq]

theorem execAt_debIsPressed_fires {P : Params wHist wTime} {s : State.Of wHist wTime}
    (h : s.history &&& P.debMask = P.debPressed) :
    execAt P .debIsPressed s =
      .next { s with history := P.debDown, tick := { s.tick with result := .bit true } } := by
  rw [execAt_debIsPressed, (matchesPressed_iff P _).mpr h, if_pos rfl]

theorem execAt_debIsPressed_silent {P : Params wHist wTime} {s : State.Of wHist wTime}
    (h : s.history &&& P.debMask ≠ P.debPressed) :
    execAt P .debIsPressed s = .next { s with tick := { s.tick with result := .bit false } } := by
  rw [execAt_debIsPressed, (matchesPressed_eq_false_iff P _).mpr h, if_neg Bool.false_ne_true]

theorem execAt_debIsReleased_fires {P : Params wHist wTime} {s : State.Of wHist wTime}
    (h : s.history &&& P.debMask = P.debReleased) :
    execAt P .debIsReleased s =
      .next { s with history := P.debUp, tick := { s.tick with result := .bit true } } := by
  rw [execAt_debIsReleased, (matchesReleased_iff P _).mpr h, if_pos rfl]

theorem execAt_debIsReleased_silent {P : Params wHist wTime} {s : State.Of wHist wTime}
    (h : s.history &&& P.debMask ≠ P.debReleased) :
    execAt P .debIsReleased s = .next { s with tick := { s.tick with result := .bit false } } := by
  rw [execAt_debIsReleased, (matchesReleased_eq_false_iff P _).mpr h, if_neg Bool.false_ne_true]

/-! ### Button events -/

theorem queried_of_no_event {P : Params wHist wTime} {h : History wHist} (hp : h &&& P.debMask ≠ P.debPressed)
    (hr : h &&& P.debMask ≠ P.debReleased) : queried P h = (h, false, false) := by
  simp [queried, (matchesPressed_eq_false_iff P h).mpr hp, (matchesReleased_eq_false_iff P h).mpr hr]

theorem queried_of_release {P : Params wHist wTime} {h : History wHist} (hp : h &&& P.debMask ≠ P.debPressed)
    (hr : h &&& P.debMask = P.debReleased) : queried P h = (P.debUp, false, true) := by
  simp [queried, (matchesPressed_eq_false_iff P h).mpr hp, (matchesReleased_iff P h).mpr hr]

/-- BTN.EVENTS in a hold or at rest: only the long-press test can answer (42_timer_button.md R146, R148). -/
theorem execAt_btnEvents_no_event {P : Params wHist wTime} {s : State.Of wHist wTime} (now : Time wTime)
    (hp : s.history &&& P.debMask ≠ P.debPressed) (hr : s.history &&& P.debMask ≠ P.debReleased) :
    let lp := decide (s.history = P.debDown ∧ s.buttonIgnored = false ∧ P.tLongPress ≤ now - s.timePressed)
    execAt P (.btnEvents now) s = .next { s with
      tick := { s.tick with
        pressed := false, released := false, shortPress := false, longPress := lp, result := .events false lp } } := by
  have hlp : (settledDown P s.history && !s.buttonIgnored && longHold P (now - s.timePressed)) =
      decide (s.history = P.debDown ∧ s.buttonIgnored = false ∧ P.tLongPress ≤ now - s.timePressed) := by
    rw [Bool.eq_iff_iff]
    simp [settledDown, longHold, and_assoc]
  simp [execAt, execBtnEvents, buttonEvents_eq, queried_of_no_event hp hr, withResult_eq, hlp]

/-- BTN.EVENTS at a release: the press was short if it was not soaked up and not held long; the soaking-up ends
(42_timer_button.md R145). A long press can show at once only where the settled histories are the same. -/
theorem execAt_btnEvents_release {P : Params wHist wTime} {s : State.Of wHist wTime} (now : Time wTime)
    (hp : s.history &&& P.debMask ≠ P.debPressed) (hr : s.history &&& P.debMask = P.debReleased) :
    let sp := decide (s.buttonIgnored = false ∧ now - s.timePressed < P.tLongPress)
    let lp := decide (P.debUp = P.debDown ∧ P.tLongPress ≤ now - s.timePressed)
    execAt P (.btnEvents now) s = .next { s with
      history := P.debUp
      buttonIgnored := false
      tick := { s.tick with
        pressed := false, released := true, shortPress := sp, longPress := lp, result := .events sp lp } } := by
  have hsp : (!s.buttonIgnored && shortHold P (now - s.timePressed)) =
      decide (s.buttonIgnored = false ∧ now - s.timePressed < P.tLongPress) := by
    rw [Bool.eq_iff_iff]
    simp [shortHold]
  have hlp : (settledDown P P.debUp && longHold P (now - s.timePressed)) =
      decide (P.debUp = P.debDown ∧ P.tLongPress ≤ now - s.timePressed) := by
    rw [Bool.eq_iff_iff]
    simp [settledDown, longHold]
  simp [execAt, execBtnEvents, buttonEvents_eq, queried_of_release hp hr, withResult_eq, hsp, hlp]

/-! ### The phases that wait -/

@[simp] theorem noteEvaluated_phase (p : Phase) (s : State.Of wHist wTime) : (noteEvaluated p s).phase = s.phase := rfl
@[simp] theorem consumeEdge_phase (s : State.Of wHist wTime) : (consumeEdge s).phase = s.phase := rfl
@[simp] theorem endTick_phase (s : State.Of wHist wTime) : (endTick s).phase = s.phase := rfl

/-- The transitions of PH.POWERWAIT1 from any phase it is issued in (43_sequencer.md R167). -/
theorem rulePowerwait1_phase (P : Params wHist wTime) (s : State.Of wHist wTime) :
    (rulePowerwait1 P s).phase =
      if s.state = false ∧ s.lastState = true then .poweroff2
      else if P.tPowerwait < s.tick.inputs.now - s.phaseTimer then .poweron
      else s.phase := by
  simp only [rulePowerwait1, endTick_phase, apply_ite State.Of.phase, State.Of.setPhase_phase, consumeEdge_phase,
    noteEvaluated_phase, wentLow_iff, waitOver_iff_lt]

/-- The transitions of PH.BOOTWAIT1 (43_sequencer.md R170). -/
theorem ruleBootwait1_phase (P : Params wHist wTime) (s : State.Of wHist wTime) :
    (ruleBootwait1 P s).phase =
      if P.tBootwait < s.tick.inputs.now - s.phaseTimer then .poweroff2
      else if s.tick.bootAsserted = true then .boot
      else s.phase := by
  simp only [ruleBootwait1, endTick_phase, apply_ite State.Of.phase, State.Of.setPhase_phase, noteEvaluated_phase,
    waitOver_iff_lt]

/-- The transitions of PH.SHUTDOWN1: two ways to one phase (43_sequencer.md R173). -/
theorem ruleShutdown1_phase (P : Params wHist wTime) (s : State.Of wHist wTime) :
    (ruleShutdown1 P s).phase =
      if P.tShutdown < s.tick.inputs.now - s.phaseTimer ∨ s.tick.bootAsserted = false then .poweroff0
      else s.phase := by
  simp only [ruleShutdown1, endTick_phase, apply_ite State.Of.phase, State.Of.setPhase_phase, noteEvaluated_phase,
    waitOver_iff_lt, Bool.not_eq_true', ite_or]

/-- The transitions of PH.POWEROFF1 (43_sequencer.md R175). -/
theorem rulePoweroff1_phase (P : Params wHist wTime) (s : State.Of wHist wTime) :
    (rulePoweroff1 P s).phase =
      if P.tPoweroff < s.tick.inputs.now - s.phaseTimer then .poweroff2
      else if s.tick.bootAsserted = true then .boot
      else s.phase := by
  simp only [rulePoweroff1, endTick_phase, apply_ite State.Of.phase, State.Of.setPhase_phase, noteEvaluated_phase,
    waitOver_iff_lt]

/-- The transitions of PH.IDLE2 (43_sequencer.md R179). -/
theorem ruleIdle2_phase (P : Params wHist wTime) (s : State.Of wHist wTime) :
    (ruleIdle2 P s).phase =
      if P.tIdle < s.tick.inputs.now - s.phaseTimer then .idle0
      else if (s.tick.shortPress = true ∧ s.state = true) ∨ (s.state = true ∧ s.lastState = false) then .poweron
      else s.phase := by
  simp only [ruleIdle2, endTick_phase, apply_ite State.Of.phase, State.Of.setPhase_phase, consumeEdge_phase,
    noteEvaluated_phase, waitOver_iff_lt, Bool.or_eq_true, Bool.and_eq_true, wentHigh_iff]

/-! ### Pins and the halt request -/

theorem execAt_ioHalt (P : Params wHist wTime) (s : State.Of wHist wTime) :
    execAt P .ioHalt s = .next { s with tick := { s.tick with
      haltReq := P.haltEnable || s.tick.haltReq
      result := .none } } := by
  rw [execAt, execIoHalt, requestHalt_eq, withResult_eq]

/-- PH.IDLE0 requests the wait and chains (43_sequencer.md R177, notes/assumptions/10.md). -/
theorem execAt_phIdle0 (P : Params wHist wTime) (s : State.Of wHist wTime) :
    execAt P .phIdle0 s = .next { s with
      phase := .idle1
      select := .phaseRegister
      tick := { s.tick with
        haltReq := P.haltEnable || s.tick.haltReq
        evaluated := s.tick.evaluated ++ [.idle0]
        result := .none } } := by
  rw [execAt, execPhIdle0, ruleIdle0, requestHalt_eq]
  rfl

/-- The outputs are active exactly as their latches say (44_gpio.md R204). -/
theorem tickOutputs_eq (P : Params wHist wTime) (s : State.Of wHist wTime) :
    tickOutputs P s =
      { enPin := s.en == P.enActive, shutdownPin := s.shutdown == P.sdActive, haltReq := s.tick.haltReq } := by
  rw [tickOutputs, pinLevel_eq_beq, pinLevel_eq_beq]

/-! ### The environment's parameters -/

theorem wakeEdge_iff (P : Params wHist wTime) (before after : PinLevels) :
    wakeEdge P before after = true ↔ ∃ p ∈ P.wakePins, inputLevel before p ≠ inputLevel after p := by
  simp only [wakeEdge, List.any_eq_true, bne_iff_ne]

theorem referenceStrobe_some_iff (P : Params wHist wTime) (now last : Time wTime) :
    referenceStrobe P (some last) now = true ↔ P.samplePeriod ≤ now - last := decide_eq_true_iff

theorem clockFits_iff (P : Params wHist wTime) {h : Halt wTime} {e : HaltEnd wTime} (he : h.ended = some e) :
    h.clockFits P = true ↔ e.inputs.now - h.start.now =
      BitVec.ofNat wTime (if P.clockRunsInHalt = true then e.tickAt else e.tickAt - (e.ends - h.begins)) := by
  rw [Halt.clockFits, he]
  exact beq_iff_eq

/-! ### The statements of 00_scope.md -/

/-- Settles O60: each clause is the law of the operation that reads the parameter. -/
theorem machineTakesItsParameters : Obligations.MachineTakesItsParameters :=
  ⟨exec_eq_execAt, step_eq_stepAt, State.reset_eq, fun _ _ P s =>
    ⟨fun i => execAt_completes P i s, fun _ _ => stepAt_of_decode, resetAt_history P, rfl, rfl,
      execAt_debIsPressed_fires, execAt_debIsPressed_silent, execAt_debIsReleased_fires, execAt_debIsReleased_silent,
      execAt_btnEvents_no_event, execAt_btnEvents_release,
      ⟨_, rfl, rulePowerwait1_phase P s⟩, ⟨_, rfl, ruleBootwait1_phase P s⟩, ⟨_, rfl, ruleShutdown1_phase P s⟩,
      ⟨_, rfl, rulePoweroff1_phase P s⟩, ⟨_, rfl, ruleIdle2_phase P s⟩,
      execAt_ioHalt P s, execAt_phIdle0 P s, rfl, tickOutputs_eq P s,
      fun hcodes p => decodeAt_phase4_codeAt hcodes p [], stepAt_of_phaseRegister P,
      wakeEdge_iff P, fun now last => ⟨rfl, referenceStrobe_some_iff P now last⟩, fun _ _ => clockFits_iff P⟩⟩

/-- Settles O12: the new history is `shiftIn`, at the default width as at any. -/
theorem debUpdateShiftsInTheSample : Obligations.DebUpdateShiftsInTheSample := by
  refine ⟨fun s x => ?_, fun wHist wTime P s x => ?_⟩
  · exact ⟨shiftIn s.history x, (exec_eq_execAt _ s).trans (execAt_debUpdate _ x s),
      shiftIn_getLsbD_zero _ x (by decide), fun k hk => shiftIn_getLsbD_succ _ x (by omega)⟩
  · exact ⟨shiftIn s.history x, execAt_debUpdate P x s, shiftIn_getLsbD_zero _ x, fun k => shiftIn_getLsbD_succ _ x⟩

end Sys2Proof.Machine

/-! SUPPORT. Ticks as a whole: which rules a tick evaluates and what they make of the output latches, the invariant of
10_state.md R38, and runs that differ in a value no rule reads. -/

namespace Sys2Proof.Machine

open Sys2Proof

variable {wHist wTime : Nat}

/-! ### What a phase rule leaves, field by field -/

@[simp] theorem evaluatePhase_phase (P : Params wHist wTime) (s : State.Of wHist wTime) :
    (evaluatePhase P s).phase = phaseAfter P s := by rw [evaluatePhase_eq]

@[simp] theorem evaluatePhase_en (P : Params wHist wTime) (s : State.Of wHist wTime) :
    (evaluatePhase P s).en = enAfter s.en s.phase := by rw [evaluatePhase_eq]

@[simp] theorem evaluatePhase_shutdown (P : Params wHist wTime) (s : State.Of wHist wTime) :
    (evaluatePhase P s).shutdown = shutdownAfter s.shutdown s.phase := by rw [evaluatePhase_eq]

@[simp] theorem evaluatePhase_select (P : Params wHist wTime) (s : State.Of wHist wTime) :
    (evaluatePhase P s).select = if chains s.phase then .phaseRegister else .script := by rw [evaluatePhase_eq]

@[simp] theorem evaluatePhase_haltReq (P : Params wHist wTime) (s : State.Of wHist wTime) :
    (evaluatePhase P s).tick.haltReq = haltAfter P s.tick.haltReq s.phase := by rw [evaluatePhase_eq]

@[simp] theorem evaluatePhase_evaluated (P : Params wHist wTime) (s : State.Of wHist wTime) :
    (evaluatePhase P s).tick.evaluated = s.tick.evaluated ++ [s.phase] := by rw [evaluatePhase_eq]

/-! ### The graph of the phases -/

/-- The phases that a phase's rule can leave (43_sequencer.md R182). -/
def successors : Phase → List Phase
  | .start => [.powerwait0, .poweroff2]
  | .powerwait0 => [.powerwait1]
  | .powerwait1 => [.poweroff2, .poweron, .powerwait1]
  | .poweron => [.bootwait0]
  | .bootwait0 => [.bootwait1]
  | .bootwait1 => [.poweroff2, .boot, .bootwait1]
  | .boot => [.shutdown0, .poweroff0, .boot]
  | .shutdown0 => [.shutdown1]
  | .shutdown1 => [.poweroff0, .shutdown1]
  | .poweroff0 => [.poweroff1]
  | .poweroff1 => [.poweroff2, .boot, .poweroff1]
  | .poweroff2 => [.idle0]
  | .idle0 => [.idle1]
  | .idle1 => [.idle2]
  | .idle2 => [.idle0, .poweron, .idle2]

theorem phaseAfter_mem_successors (P : Params wHist wTime) (s : State.Of wHist wTime) :
    phaseAfter P s ∈ successors s.phase := by
  unfold phaseAfter successors
  cases s.phase <;> dsimp only <;> repeat' split
  all_goals simp

/-- IDLE1 is entered from IDLE0 only, whose rule chains. -/
theorem chains_of_idle1_mem_successors {p : Phase} : .idle1 ∈ successors p → chains p = true := by
  cases p <;> decide

/-! ### The rules of one tick -/

/-- A tick's evaluation ends with a rule that does not chain, and what every rule keeps holds where that one starts
(43_sequencer.md R163). -/
theorem evaluateChain_three_ends (P : Params wHist wTime) {Q : State.Of wHist wTime → Prop}
    (hkeep : ∀ u, Q u → Q (evaluatePhase P u)) {s : State.Of wHist wTime} (hs : Q s) :
    ∃ t, Q t ∧ chains t.phase = false ∧ evaluateChain P 3 s = evaluatePhase P t := by
  rw [evaluateChain_three]
  cases h : s.phase
  case poweroff0 => exact ⟨_, hkeep _ hs, by simp [phaseAfter, h, chains], rfl⟩
  case idle0 => exact ⟨_, hkeep _ (hkeep _ hs), by simp [phaseAfter, h, chains], rfl⟩
  case idle1 => exact ⟨_, hkeep _ hs, by simp [phaseAfter, h, chains], rfl⟩
  all_goals exact ⟨s, hs, by rw [h]; rfl, rfl⟩

/-- Two states that a relation ties are tied after their chains, if it makes the phases agree and every rule keeps
it. -/
theorem evaluateChain_related (P : Params wHist wTime) {R : State.Of wHist wTime → State.Of wHist wTime → Prop}
    (hphase : ∀ s t, R s t → t.phase = s.phase) (hkeep : ∀ s t, R s t → R (evaluatePhase P s) (evaluatePhase P t))
    (n : Nat) {s t : State.Of wHist wTime} (h : R s t) : R (evaluateChain P n s) (evaluateChain P n t) := by
  induction n generalizing s t with
  | zero => exact h
  | succ n ih =>
    rw [evaluateChain_succ, evaluateChain_succ, hphase s t h]
    split
    · exact ih (hkeep s t h)
    · exact hkeep s t h

/-- The rules that a tick evaluates when it dispatches a phase (43_sequencer.md R163). -/
def rulesEvaluated : Phase → List Phase
  | .poweroff0 => [.poweroff0, .poweroff1]
  | .idle0 => [.idle0, .idle1, .idle2]
  | .idle1 => [.idle1, .idle2]
  | p => [p]

/-- What each rule decides from its phase alone is decided for the tick by the list of its rules. -/
theorem evaluateChain_three_foldl (P : Params wHist wTime) {α : Type} (obs : State.Of wHist wTime → α)
    (after : α → Phase → α) (hobs : ∀ t, obs (evaluatePhase P t) = after (obs t) t.phase) (s : State.Of wHist wTime) :
    obs (evaluateChain P 3 s) = (rulesEvaluated s.phase).foldl after (obs s) := by
  rw [evaluateChain_three]
  cases h : s.phase <;> simp [hobs, phaseAfter, h, rulesEvaluated]

theorem tick_en (P : Params wHist wTime) (inp : TickInputs wTime) (s : State.Of wHist wTime) :
    (tick P inp s).en = (rulesEvaluated (beforePhases P inp s).phase).foldl enAfter s.en := by
  obtain ⟨-, -, hen, -⟩ := beforePhases_frame P inp s
  rw [← hen]
  exact evaluateChain_three_foldl P (·.en) enAfter (evaluatePhase_en P) _

theorem tick_shutdown (P : Params wHist wTime) (inp : TickInputs wTime) (s : State.Of wHist wTime) :
    (tick P inp s).shutdown = (rulesEvaluated (beforePhases P inp s).phase).foldl shutdownAfter s.shutdown := by
  obtain ⟨-, -, -, hsd, -⟩ := beforePhases_frame P inp s
  rw [← hsd]
  exact evaluateChain_three_foldl P (·.shutdown) shutdownAfter (evaluatePhase_shutdown P) _

theorem tick_haltReq (P : Params wHist wTime) (inp : TickInputs wTime) (s : State.Of wHist wTime) :
    (tick P inp s).tick.haltReq = (rulesEvaluated (beforePhases P inp s).phase).foldl (haltAfter P) false := by
  obtain ⟨-, -, -, -, -, -, -, hhalt⟩ := beforePhases_frame P inp s
  rw [← hhalt]
  exact evaluateChain_three_foldl P (·.tick.haltReq) (haltAfter P) (evaluatePhase_haltReq P) _

theorem tick_evaluated (P : Params wHist wTime) (inp : TickInputs wTime) (s : State.Of wHist wTime) :
    (tick P inp s).tick.evaluated = rulesEvaluated (beforePhases P inp s).phase := by
  obtain ⟨-, -, -, -, -, -, hev, -⟩ := beforePhases_frame P inp s
  calc (tick P inp s).tick.evaluated
      = (rulesEvaluated (beforePhases P inp s).phase).foldl (fun l p => l ++ [p])
          (beforePhases P inp s).tick.evaluated :=
        evaluateChain_three_foldl P (·.tick.evaluated) (fun l p => l ++ [p]) (evaluatePhase_evaluated P) _
    _ = rulesEvaluated (beforePhases P inp s).phase := by simp [hev, ← List.flatMap_def]

/-- SHUTDOWN0 is entered by no chain (43_sequencer.md R163). -/
theorem shutdown0_of_mem_rulesEvaluated {p : Phase} : .shutdown0 ∈ rulesEvaluated p → p = .shutdown0 := by
  cases p <;> decide

/-- Only IDLE0's rule requests the halt, and no chain enters IDLE0 (43_sequencer.md R177). -/
theorem idle0_of_foldl_haltAfter {P : Params wHist wTime} {p : Phase} :
    (rulesEvaluated p).foldl (haltAfter P) false = true → p = .idle0 := by
  cases p <;> simp [rulesEvaluated, haltAfter]

/-- A fold that ends elsewhere than it began has an element that moves the beginning. -/
theorem exists_mem_of_foldl_ne {α β : Type} {f : α → β → α} {a : α} {l : List β} (h : l.foldl f a ≠ a) :
    ∃ b ∈ l, f a b ≠ a := by
  induction l with
  | nil => exact absurd rfl h
  | cons b l ih =>
    by_cases hb : f a b = a
    · rw [List.foldl_cons, hb] at h
      obtain ⟨c, hc, hmoves⟩ := ih h
      exact ⟨c, List.mem_cons_of_mem b hc, hmoves⟩
    · exact ⟨b, List.mem_cons_self, hb⟩

/-- The rules that write EN (10_state.md R30). -/
theorem writer_of_enAfter_ne {en : Bool} {p : Phase} (h : enAfter en p ≠ en) : p = .poweron ∨ p = .poweroff2 := by
  cases p <;> simp [enAfter] at h ⊢

/-- The rules that write SHUTDOWN (10_state.md R31). -/
theorem writer_of_shutdownAfter_ne {sd : Bool} {p : Phase} (h : shutdownAfter sd p ≠ sd) :
    p = .shutdown0 ∨ p = .poweroff0 ∨ p = .poweroff2 := by
  cases p <;> simp [shutdownAfter] at h ⊢

/-- A tick that dispatches any phase but POWEROFF2 started in that phase (43_sequencer.md R161). -/
theorem phase_of_beforePhases_phase {P : Params wHist wTime} {inp : TickInputs wTime} {s : State.Of wHist wTime}
    {p : Phase} (h : (beforePhases P inp s).phase = p) (hp : p ≠ .poweroff2) : s.phase = p := by
  rcases beforePhases_phase P inp s with ⟨hsame, -⟩ | ⟨hover, -⟩
  · exact hsame.symm.trans h
  · exact absurd (h.symm.trans hover) hp

/-- No chain is open between ticks. -/
theorem tick_select (P : Params wHist wTime) (inp : TickInputs wTime) (s : State.Of wHist wTime) :
    (tick P inp s).select = .script := by
  obtain ⟨t, -, hlast, ht⟩ := evaluateChain_three_ends P (Q := fun _ => True) (fun _ h => h)
    (s := beforePhases P inp s) trivial
  rw [tick_eq]
  simp only [ht, evaluatePhase_select, hlast, Bool.false_eq_true, if_false]

/-! ### The events of one tick -/

/-- The events and pulses of a tick are those of its button logic. -/
theorem tick_events (P : Params wHist wTime) (inp : TickInputs wTime) (s : State.Of wHist wTime) :
    (tick P inp s).tick.pressed = (beforePhases P inp s).tick.pressed ∧
    (tick P inp s).tick.released = (beforePhases P inp s).tick.released ∧
    (tick P inp s).tick.shortPress = (beforePhases P inp s).tick.shortPress ∧
    (tick P inp s).tick.longPress = (beforePhases P inp s).tick.longPress := by
  obtain ⟨-, -, -, -, -, -, -, -, hp, hr, hsp, hlp⟩ := evaluateChain_frame P 3 (beforePhases P inp s)
  exact ⟨hp, hr, hsp, hlp⟩

/-- Both pulses judge one hold: the short one below the threshold, the long one from it on (42_timer_button.md R147). -/
theorem tick_pulses_exclusive (P : Params wHist wTime) (inp : TickInputs wTime) (s : State.Of wHist wTime) :
    ¬((tick P inp s).tick.shortPress = true ∧ (tick P inp s).tick.longPress = true) := by
  obtain ⟨-, -, hsp, hlp⟩ := tick_events P inp s
  rw [hsp, hlp, beforePhases_eq]
  simp only [Bool.and_eq_true, shortHold_eq, Bool.not_eq_true']
  rintro ⟨⟨-, hshort⟩, ⟨-, hlong⟩⟩
  exact Bool.false_ne_true (hshort.symm.trans hlong)

/-- A press forces the history to the settled-down value; if that is no release, the second query is silent. -/
theorem queried_exclusive {P : Params wHist wTime} (hdown : matchesReleased P P.debDown = false) (h : History wHist) :
    ¬((queried P h).2.1 = true ∧ (queried P h).2.2 = true) := by
  rintro ⟨hp : matchesPressed P h = true, hr⟩
  simp only [queried, hp, if_true, hdown] at hr
  exact Bool.false_ne_true hr

theorem matchesReleased_debDown_default : matchesReleased Config.params (Config.params 8 32).debDown = false := by
  simp [matchesReleased]

theorem tick_button_events_exclusive {P : Params wHist wTime} (hdown : matchesReleased P P.debDown = false)
    (inp : TickInputs wTime) (s : State.Of wHist wTime) :
    ¬((tick P inp s).tick.pressed = true ∧ (tick P inp s).tick.released = true) := by
  obtain ⟨hp, hr, -, -⟩ := tick_events P inp s
  rw [hp, hr, beforePhases_eq]
  exact queried_exclusive hdown _

/-! ### The invariant of the outputs -/

/-- The latches that 10_state.md R38 (a) to (d) lets a phase have. -/
def latchesFit (p : Phase) (en shutdown : Bool) : Bool :=
  match p with
  | .start | .powerwait0 | .powerwait1 | .poweron | .idle0 | .idle1 | .idle2 => !en && !shutdown
  | .bootwait0 | .bootwait1 | .boot | .shutdown0 | .poweroff1 => en && !shutdown
  | .shutdown1 | .poweroff0 => en
  | .poweroff2 => !shutdown

theorem outputsFitPhase_iff (s : State.Of wHist wTime) :
    OutputsFitPhase s ↔ latchesFit s.phase s.en s.shutdown = true ∧ s.phase ≠ .idle1 := by
  constructor
  · rintro ⟨hhigh, hlow, hen, hoff2, hidle1⟩
    refine ⟨?_, hidle1⟩
    cases h : s.phase <;> simp_all [latchesFit]
  · rintro ⟨hfit, hidle1⟩
    constructor <;> cases h : s.phase <;> simp_all [latchesFit]

/-- Along every edge of the graph the rule's writes make the latches fit the new phase. POWEROFF2 needs nothing of the
old ones: the override enters it from any phase. -/
theorem latchesFit_of_mem_successors {p : Phase} {en sd : Bool} {q : Phase} (hq : q ∈ successors p)
    (h : p = .poweroff2 ∨ latchesFit p en sd = true) : latchesFit q (enAfter en p) (shutdownAfter sd p) = true := by
  revert en sd q
  cases p <;> decide

theorem latchesFit_evaluatePhase (P : Params wHist wTime) {s : State.Of wHist wTime}
    (h : s.phase = .poweroff2 ∨ latchesFit s.phase s.en s.shutdown = true) :
    latchesFit (evaluatePhase P s).phase (evaluatePhase P s).en (evaluatePhase P s).shutdown = true := by
  rw [evaluatePhase_phase, evaluatePhase_en, evaluatePhase_shutdown]
  exact latchesFit_of_mem_successors (phaseAfter_mem_successors P s) h

/-- A tick's rules leave outputs that fit the phase, from fitting latches or from POWEROFF2. -/
theorem outputsFitPhase_evaluateChain (P : Params wHist wTime) {s : State.Of wHist wTime}
    (h : s.phase = .poweroff2 ∨ latchesFit s.phase s.en s.shutdown = true) :
    OutputsFitPhase (evaluateChain P 3 s) := by
  obtain ⟨t, hfit, hlast, ht⟩ := evaluateChain_three_ends P
    (Q := fun u => u.phase = .poweroff2 ∨ latchesFit u.phase u.en u.shutdown = true)
    (fun u hu => .inr (latchesFit_evaluatePhase P hu)) h
  have hidle1 : (evaluatePhase P t).phase ≠ .idle1 := by
    intro hp
    have hmem := phaseAfter_mem_successors P t
    rw [← evaluatePhase_phase, hp] at hmem
    exact Bool.false_ne_true (hlast.symm.trans (chains_of_idle1_mem_successors hmem))
  rw [ht, outputsFitPhase_iff]
  exact ⟨latchesFit_evaluatePhase P hfit, hidle1⟩

/-- R38 speaks of the phase and the two latches only. -/
theorem OutputsFitPhase.of_registers {s t : State.Of wHist wTime} (h : OutputsFitPhase s) (hphase : t.phase = s.phase)
    (hen : t.en = s.en) (hsd : t.shutdown = s.shutdown) : OutputsFitPhase t := by
  rw [outputsFitPhase_iff] at h ⊢
  rwa [hphase, hen, hsd]

theorem outputsFitPhase_tick (P : Params wHist wTime) (inp : TickInputs wTime) {s : State.Of wHist wTime}
    (h : OutputsFitPhase s) : OutputsFitPhase (tick P inp s) := by
  obtain ⟨hfit, -⟩ := (outputsFitPhase_iff s).mp h
  obtain ⟨-, -, hen, hsd, -⟩ := beforePhases_frame P inp s
  refine OutputsFitPhase.of_registers (outputsFitPhase_evaluateChain P (s := beforePhases P inp s) ?_) rfl rfl rfl
  rcases beforePhases_phase P inp s with ⟨hsame, -⟩ | ⟨hover, -⟩
  · exact .inr (by rw [hsame, hen, hsd]; exact hfit)
  · exact .inl hover

theorem outputsFitPhase_resetAt (P : Params wHist wTime) : OutputsFitPhase (resetAt P) := by
  rw [outputsFitPhase_iff]
  exact ⟨rfl, by simp⟩

/-! ### Steps on a stimulus script -/

/-- What the environment issues on its own is a stimulus. -/
theorem isStimulus_environmentInstr (n : Nat) : IsStimulus (environmentInstr n : Instr wTime) := by
  unfold environmentInstr
  split
  · exact .inl rfl
  · exact .inr ⟨_, rfl⟩

theorem stepAt_of_no_script (P : Params wHist wTime) {s : State.Of wHist wTime} (hsel : s.select = .script)
    (hscript : s.script = []) : stepAt P s = execAt P (environmentInstr s.issued) (s.setIssued (s.issued + 1)) := by
  rw [stepAt, fetchAndRun, hsel]
  simp only [runScript, hscript]

/-- The bytes of a stimulus at the head of a script decode to it (30_encoding.md R82). -/
theorem decodeAt_op6_encodeAt_of_isStimulus (P : Params wHist wTime) {i : Instr wTime} (h : IsStimulus i)
    (rest : List Byte) : decodeAt P .op6 (encodeAt P i ++ rest) = .ok (i, rest) := by
  rcases h with rfl | ⟨inp, rfl⟩
  · rfl
  · calc decodeAt P .op6 (encodeAt P (.seqTick inp) ++ rest)
        = (readInputs (inputsBytes inp ++ rest)).map fun r => (.seqTick r.1, r.2) := rfl
      _ = .ok (.seqTick inp, rest) := by rw [readInputs_inputsBytes]; rfl

theorem StimulusScript.nil (P : Params wHist wTime) : StimulusScript P [] := ⟨[], by simp, rfl⟩

/-- A stimulus script is empty, or a stimulus and a stimulus script after it. -/
theorem StimulusScript.cases {P : Params wHist wTime} {bs : List Byte} (h : StimulusScript P bs) :
    bs = [] ∨ ∃ i rest, IsStimulus i ∧ StimulusScript P rest ∧ bs = encodeAt P i ++ rest := by
  obtain ⟨ops, hops, rfl⟩ := h
  cases ops with
  | nil => exact .inl rfl
  | cons i ops =>
    obtain ⟨hi, hops⟩ := List.forall_mem_cons.mp hops
    exact .inr ⟨i, ops.flatMap (encodeAt P), hi, ⟨ops, hops, rfl⟩, rfl⟩

theorem invAt_resetAt (P : Params wHist wTime) : InvAt P (resetAt P) :=
  ⟨outputsFitPhase_resetAt P, rfl, .nil P⟩

theorem InvAt.tick {P : Params wHist wTime} {s : State.Of wHist wTime} (h : InvAt P s) (inp : TickInputs wTime) :
    InvAt P (tick P inp s) := by
  obtain ⟨hscript, -⟩ := tick_environment P inp s
  exact ⟨outputsFitPhase_tick P inp h.outputs, tick_select P inp s, hscript ▸ h.stimulus⟩

theorem InvAt.resetCore {P : Params wHist wTime} {s : State.Of wHist wTime} (h : InvAt P s) :
    InvAt P (resetCore P s) :=
  ⟨(outputsFitPhase_resetAt P).of_registers rfl rfl rfl, rfl, h.stimulus⟩

theorem InvAt.setScript {P : Params wHist wTime} {s : State.Of wHist wTime} (h : InvAt P s) {bs : List Byte}
    (hbs : StimulusScript P bs) : InvAt P (s.setScript bs) :=
  ⟨h.outputs.of_registers rfl rfl rfl, h.between_ticks, hbs⟩

theorem InvAt.setIssued {P : Params wHist wTime} {s : State.Of wHist wTime} (h : InvAt P s) (n : Nat) :
    InvAt P (s.setIssued n) :=
  ⟨h.outputs.of_registers rfl rfl rfl, h.between_ticks, h.stimulus⟩

/-- A stimulus completes and keeps the invariant. -/
theorem execAt_keeps_invAt {P : Params wHist wTime} {i : Instr wTime} (hi : IsStimulus i) {s : State.Of wHist wTime}
    (h : InvAt P s) : ∃ t, execAt P i s = .next t ∧ InvAt P t := by
  rcases hi with rfl | ⟨inp, rfl⟩
  · exact ⟨_, rfl, h.resetCore⟩
  · exact ⟨_, rfl, h.tick inp⟩

theorem stepAt_keeps_invAt {P : Params wHist wTime} {s : State.Of wHist wTime} (h : InvAt P s) :
    ∃ t, stepAt P s = .next t ∧ InvAt P t := by
  rcases h.stimulus.cases with hnil | ⟨i, rest, hi, hrest, hcons⟩
  · rw [stepAt_of_no_script P h.between_ticks hnil]
    exact execAt_keeps_invAt (isStimulus_environmentInstr _) (h.setIssued _)
  · have hdecode := decodeAt_op6_encodeAt_of_isStimulus P hi rest
    rw [stepAt_of_decode h.between_ticks (hcons ▸ hdecode)]
    exact execAt_keeps_invAt hi (h.setScript hrest)

/-! ### Runs of ticks -/

theorem runTicks_keeps (P : Params wHist wTime) {Q : State.Of wHist wTime → Prop}
    (hkeep : ∀ inp s, Q s → Q (tick P inp s)) (inps : List (TickInputs wTime)) {s : State.Of wHist wTime} (h : Q s) :
    Q (runTicks P inps s) := by
  induction inps generalizing s with
  | nil => exact h
  | cons inp rest ih => exact ih (hkeep inp s h)

theorem runTicks_related (P : Params wHist wTime) {R : State.Of wHist wTime → State.Of wHist wTime → Prop}
    (hkeep : ∀ inp s t, R s t → R (tick P inp s) (tick P inp t)) (inps : List (TickInputs wTime))
    {s t : State.Of wHist wTime} (h : R s t) : R (runTicks P inps s) (runTicks P inps t) := by
  induction inps generalizing s t with
  | nil => exact h
  | cons inp rest ih => exact ih (hkeep inp s t h)

/-! ### The unsampled pins -/

/-- The state with other POWER and USB levels in its latched inputs. -/
def withPins (pw usb : Bool) (s : State.Of wHist wTime) : State.Of wHist wTime :=
  s.setTick { s.tick with inputs := { s.tick.inputs with pinPower := pw, pinUsb := usb } }

theorem sameRegisters_withPins (pw usb : Bool) (s : State.Of wHist wTime) : SameRegisters (withPins pw usb s) s :=
  ⟨rfl, rfl, rfl, rfl, rfl, rfl, rfl, rfl, rfl⟩

theorem withPins_result (pw usb : Bool) (s : State.Of wHist wTime) :
    (withPins pw usb s).tick.result = s.tick.result := rfl

/-- Without the strobe the sensors are not sampled, so the two levels only stay latched (20_memory.md R62). -/
theorem beforePhases_unsampled (P : Params wHist wTime) {inp : TickInputs wTime} (hstb : inp.sampleStb = false)
    (pw usb : Bool) (s : State.Of wHist wTime) :
    beforePhases P { inp with pinPower := pw, pinUsb := usb } s = withPins pw usb (beforePhases P inp s) := by
  rcases inp with ⟨now, stb, pw₀, usb₀, boot⟩
  obtain rfl : stb = false := hstb
  rw [beforePhases_eq, beforePhases_eq]
  rfl

theorem evaluatePhase_withPins (P : Params wHist wTime) (pw usb : Bool) (s : State.Of wHist wTime) :
    evaluatePhase P (withPins pw usb s) = withPins pw usb (evaluatePhase P s) := by
  rw [evaluatePhase_eq, evaluatePhase_eq]
  rfl

theorem evaluateChain_withPins (P : Params wHist wTime) (n : Nat) (pw usb : Bool) (s : State.Of wHist wTime) :
    evaluateChain P n (withPins pw usb s) = withPins pw usb (evaluateChain P n s) :=
  evaluateChain_related P (R := fun s t => t = withPins pw usb s) (by rintro s _ rfl; rfl)
    (by rintro s _ rfl; exact evaluatePhase_withPins P pw usb s) n rfl

theorem tick_unsampled (P : Params wHist wTime) {inp : TickInputs wTime} (hstb : inp.sampleStb = false)
    (pw usb : Bool) (s : State.Of wHist wTime) :
    tick P { inp with pinPower := pw, pinUsb := usb } s = withPins pw usb (tick P inp s) := by
  rw [tick_eq, tick_eq, beforePhases_unsampled P hstb, evaluateChain_withPins]
  rfl

/-! ### The pulse of a short press -/

/-- Only PH.BOOT and PH.IDLE2 choose their successor by `short_press` (10_state.md R33). -/
theorem phaseAfter_shortPress (P : Params wHist wTime) {s : State.Of wHist wTime} (sp : Bool)
    (hboot : s.phase ≠ .boot) (hidle2 : s.phase ≠ .idle2) :
    phaseAfter P (s.setTick { s.tick with shortPress := sp }) = phaseAfter P s := by
  rcases s with ⟨hi, st, ls, ph, pt, tp, bi, en, sd, tk, se, sc, is⟩
  cases ph
  case boot => exact absurd rfl hboot
  case idle2 => exact absurd rfl hidle2
  all_goals rfl

/-! ### The stale phase timer -/

/-- The phases whose rule reads `phase_timer` (10_state.md R27). -/
def readsTimer : Phase → Bool
  | .powerwait1 | .bootwait1 | .shutdown1 | .poweroff1 | .idle2 => true
  | .start | .powerwait0 | .poweron | .bootwait0 | .boot | .shutdown0 | .poweroff0 | .poweroff2 | .idle0
  | .idle1 => false

/-- A phase that reads the timer is entered from one that records it (43_sequencer.md R182). -/
theorem recordsTimer_of_mem_successors {p q : Phase} (hp : readsTimer p = false) (hq : q ∈ successors p)
    (hread : readsTimer q = true) : recordsTimer p = true := by
  revert q
  cases p <;> revert hp <;> decide

theorem phaseAfter_setPhaseTimer (P : Params wHist wTime) {s : State.Of wHist wTime} (h : readsTimer s.phase = false)
    (x : Time wTime) : phaseAfter P (s.setPhaseTimer x) = phaseAfter P s := by
  rcases s with ⟨hi, st, ls, ph, pt, tp, bi, en, sd, tk, se, sc, is⟩
  cases ph
  case powerwait1 | bootwait1 | shutdown1 | poweroff1 | idle2 => cases h
  all_goals rfl

theorem evaluatePhase_setPhaseTimer (P : Params wHist wTime) {s : State.Of wHist wTime}
    (h : readsTimer s.phase = false) (x : Time wTime) :
    evaluatePhase P (s.setPhaseTimer x) =
      (evaluatePhase P s).setPhaseTimer (if recordsTimer s.phase then s.tick.inputs.now else x) := by
  rw [evaluatePhase_eq, evaluatePhase_eq, phaseAfter_setPhaseTimer P h]
  rfl

/-- The second state is the first with another `phase_timer`, if its phase does not read it. -/
def SameButUnreadTimer (s t : State.Of wHist wTime) : Prop :=
  ∃ x, t = s.setPhaseTimer x ∧ (readsTimer s.phase = true → x = s.phaseTimer)

theorem SameButUnreadTimer.refl (s : State.Of wHist wTime) : SameButUnreadTimer s s := ⟨s.phaseTimer, rfl, fun _ => rfl⟩

theorem SameButUnreadTimer.phase_eq {s t : State.Of wHist wTime} (h : SameButUnreadTimer s t) : t.phase = s.phase := by
  obtain ⟨x, rfl, -⟩ := h
  rfl

theorem SameButUnreadTimer.evaluatePhase (P : Params wHist wTime) {s t : State.Of wHist wTime}
    (h : SameButUnreadTimer s t) : SameButUnreadTimer (evaluatePhase P s) (evaluatePhase P t) := by
  obtain ⟨x, rfl, hx⟩ := h
  cases hread : readsTimer s.phase with
  | true =>
    rw [hx hread]
    exact .refl _
  | false =>
    refine ⟨_, evaluatePhase_setPhaseTimer P hread x, fun hafter => ?_⟩
    rw [evaluatePhase_phase] at hafter
    have hrec := recordsTimer_of_mem_successors hread (phaseAfter_mem_successors P s) hafter
    rw [evaluatePhase_eq]
    simp only [hrec, if_true]

theorem SameButUnreadTimer.beforePhases (P : Params wHist wTime) (inp : TickInputs wTime) {s t : State.Of wHist wTime}
    (h : SameButUnreadTimer s t) : SameButUnreadTimer (beforePhases P inp s) (beforePhases P inp t) := by
  obtain ⟨x, rfl, hx⟩ := h
  obtain ⟨-, htimer, -⟩ := beforePhases_frame P inp s
  refine ⟨x, by rw [beforePhases_eq, beforePhases_eq]; rfl, fun hread => ?_⟩
  rcases beforePhases_phase P inp s with ⟨hsame, -⟩ | ⟨hover, -⟩
  · rw [htimer]
    exact hx (hsame ▸ hread)
  · rw [hover] at hread
    cases hread

theorem SameButUnreadTimer.tick (P : Params wHist wTime) (inp : TickInputs wTime) {s t : State.Of wHist wTime}
    (h : SameButUnreadTimer s t) : SameButUnreadTimer (tick P inp s) (tick P inp t) := by
  obtain ⟨x, ht, hx⟩ := evaluateChain_related P (fun _ _ => SameButUnreadTimer.phase_eq)
    (fun _ _ => SameButUnreadTimer.evaluatePhase P) 3 (h.beforePhases P inp)
  refine ⟨x, ?_, hx⟩
  rw [tick_eq, tick_eq, ht]
  rfl

/-! ### The statements of 10_state.md -/

/-- Settles O54: a step runs one stimulus, of the script or of the environment, and each keeps the invariant. -/
theorem stepKeepsInvariant : Obligations.StepKeepsInvariant :=
  ⟨fun s h => step_eq_stepAt s ▸ stepAt_keeps_invAt h, fun _ _ _ _ => stepAt_keeps_invAt⟩

/-- Settles O25: the pulses judge one hold, and a press leaves a history that is no release. -/
theorem pulsesExcludeEachOther : Obligations.PulsesExcludeEachOther := fun inp s =>
  ⟨tick_pulses_exclusive _ inp s, tick_button_events_exclusive matchesReleased_debDown_default inp s⟩

/-- Settles O45: the two runs end in states that differ in the latched levels only. -/
theorem unsampledPinsDoNotMatter : Obligations.UnsampledPinsDoNotMatter := by
  intro wHist wTime P inp pw usb s hstb
  rw [tick_unsampled P hstb]
  exact ⟨sameRegisters_withPins pw usb _, withPins_result pw usb _⟩

/-- Settles O46: of all that a rule writes only the next phase could depend on the pulse. -/
theorem shortPressMattersInTwoPhases : Obligations.ShortPressMattersInTwoPhases := by
  intro wHist wTime P s sp hboot hidle2
  rw [evaluatePhase_eq, evaluatePhase_eq, phaseAfter_shortPress P sp hboot hidle2]
  rfl

/-- Settles O48: the latches are folded over the evaluated rules, and only the writers change them. -/
theorem latchesHoldBetweenWriters : Obligations.LatchesHoldBetweenWriters := by
  intro wHist wTime P inp s
  rw [tick_en, tick_shutdown, tick_evaluated]
  constructor
  · intro hne
    obtain ⟨p, hp, hwrites⟩ := exists_mem_of_foldl_ne hne
    exact ⟨p, hp, writer_of_enAfter_ne hwrites⟩
  · intro hne
    obtain ⟨p, hp, hwrites⟩ := exists_mem_of_foldl_ne hne
    exact ⟨p, hp, writer_of_shutdownAfter_ne hwrites⟩

/-- Settles O49: a tick evaluates SHUTDOWN0 only by dispatching it, where R38 has SHUTDOWN low. -/
theorem shutdownRequestIsARisingEdge : Obligations.ShutdownRequestIsARisingEdge := by
  intro wHist wTime P inp s hfit hmem
  have hdispatch := shutdown0_of_mem_rulesEvaluated (tick_evaluated P inp s ▸ hmem)
  have hphase := phase_of_beforePhases_phase hdispatch (by decide)
  constructor
  · cases hsd : s.shutdown with
    | false => rfl
    | true => simpa [hphase] using hfit.shutdown_high hsd
  · rw [tick_shutdown, hdispatch]
    rfl

/-- Settles O50: only IDLE0's rule requests the halt, and the three rules of its tick write no latch. -/
theorem haltIsRequestedDeEnergised : Obligations.HaltIsRequestedDeEnergised := by
  intro wHist wTime P inp s hfit hhalt
  have hdispatch := idle0_of_foldl_haltAfter (tick_haltReq P inp s ▸ hhalt)
  have hphase := phase_of_beforePhases_phase hdispatch (by decide)
  obtain ⟨hen, hsd⟩ := hfit.de_energised (by rw [hphase]; decide)
  refine ⟨hphase, ?_, ?_⟩
  · rw [tick_en, hdispatch, hen]
    rfl
  · rw [tick_shutdown, hdispatch, hsd]
    rfl

/-- Settles O55: reset fits, and every tick keeps it. -/
theorem outputsFitPhaseAfterAnyTicks : Obligations.OutputsFitPhaseAfterAnyTicks := fun _ _ P inps =>
  runTicks_keeps P (fun inp _ => outputsFitPhase_tick P inp) inps (outputsFitPhase_resetAt P)

/-- Settles O57: the two runs stay the same but for a timer that the phase does not read. -/
theorem phaseTimerAtResetIsUnobservable : Obligations.PhaseTimerAtResetIsUnobservable := by
  intro wHist wTime P x inps
  have hreset : SameButUnreadTimer (resetAt P) ((resetAt P).setPhaseTimer x) := ⟨x, rfl, fun h => by cases h⟩
  obtain ⟨y, hy, -⟩ := runTicks_related P (fun inp _ _ => SameButUnreadTimer.tick P inp) inps hreset
  rw [hy]
  rfl

/-- Settles O9: with the script empty the step runs what the environment issues, which completes. -/
theorem stepWithoutScriptIsTheEnvironments : Obligations.StepWithoutScriptIsTheEnvironments := by
  intro s hsel hscript
  rw [step_eq_stepAt, stepAt_of_no_script _ hsel hscript]
  rcases isStimulus_environmentInstr (wTime := 32) s.issued with hreset | ⟨inp, htick⟩
  · rw [hreset]
    exact ⟨_, rfl, .inr rfl⟩
  · rw [htick]
    exact ⟨_, rfl, .inl ⟨inp, rfl⟩⟩

/-- Settles O11: SEQ.RESET is `resetCore`, which keeps the script and the stimulus counter only. -/
theorem resetLeavesTheResetValues : Obligations.ResetLeavesTheResetValues :=
  ⟨⟨rfl, rfl, rfl, rfl, rfl, rfl, rfl, rfl, rfl⟩, fun s =>
    ⟨resetCore Config.params s, rfl, ⟨rfl, rfl, rfl, rfl, rfl, rfl, rfl, rfl, rfl⟩, rfl, rfl, rfl, rfl⟩⟩

/-- Settles O28: each operation is one latch write, and the pins of active-high outputs show the latches. -/
theorem latchWrites : Obligations.LatchWrites := fun s =>
  ⟨rfl, rfl, rfl, rfl, by simp only [tickOutputs, params_enActive, params_sdActive, pinLevel_true]⟩

/-- Settles O53: the case of the default parameters. -/
theorem resetSatisfiesInvariant : Obligations.ResetSatisfiesInvariant := invAt_resetAt Config.params

end Sys2Proof.Machine

/-! SUPPORT. Decoding and encoding as one fact for each format of 30_encoding.md R70: bytes decode to an instruction
exactly when they begin with its encoding. -/

namespace Sys2Proof

variable {wHist wTime : Nat}

/-! ### All the words of a width -/

/-- The words of `w` bits, in order. -/
def words (w : Nat) : List (BitVec w) := (List.range (2 ^ w)).map (BitVec.ofNat w)

theorem length_words (w : Nat) : (words w).length = 2 ^ w := by rw [words, List.length_map, List.length_range]

theorem mem_words {w : Nat} (v : BitVec w) : v ∈ words w :=
  List.mem_map.mpr ⟨v.toNat, List.mem_range.mpr v.isLt, by simp⟩

theorem nodup_words (w : Nat) : (words w).Nodup := by
  refine List.nodup_range.map_on fun m hm n hn h => ?_
  have hval := congrArg BitVec.toNat h
  rwa [BitVec.toNat_ofNat, BitVec.toNat_ofNat, Nat.mod_eq_of_lt (List.mem_range.mp hm),
    Nat.mod_eq_of_lt (List.mem_range.mp hn)] at hval

theorem length_le_of_nodup {w : Nat} {l : List (BitVec w)} (h : l.Nodup) : l.length ≤ 2 ^ w :=
  length_words w ▸ (h.subperm fun v _ => mem_words v).length_le

/-! ### Operations (30_encoding.md R74) -/

/-- The operation that a form makes of an operand, and the operand's bytes. -/
inductive OperandForm.Writes : OperandForm wTime → Instr wTime → List Byte → Prop where
  | bare (i : Instr wTime) : Writes (.bare i) i []
  | bit (mk : Bool → Instr wTime) (b : Bool) : Writes (.bit mk) (mk b) (bitBytes b)
  | time (mk : Time wTime → Instr wTime) (t : Time wTime) : Writes (.time mk) (mk t) (timeBytes t)
  | inputs (mk : TickInputs wTime → Instr wTime) (inp : TickInputs wTime) :
    Writes (.inputs mk) (mk inp) (inputsBytes inp)

theorem OperandForm.Writes.read {form : OperandForm wTime} {i : Instr wTime} {operand : List Byte}
    (h : form.Writes i operand) (rest : List Byte) : form.read (operand ++ rest) = .ok (i, rest) := by
  cases h with
  | bare => rfl
  | bit mk b => simp only [OperandForm.read, readBit_bitBytes, Except.map]
  | time mk t => simp only [OperandForm.read, readTime_timeBytes, Except.map]
  | inputs mk inp => simp only [OperandForm.read, readInputs_inputsBytes, Except.map]

/-- What a reader's result was mapped from. -/
theorem exists_of_map_eq_ok {α β ε : Type} {x : Except ε α} {f : α → β} {b : β} (h : x.map f = .ok b) :
    ∃ a, x = .ok a ∧ f a = b := by
  cases x with
  | error e => cases h
  | ok a => exact ⟨a, rfl, Except.ok.inj h⟩

theorem OperandForm.writes_of_read {form : OperandForm wTime} {bs rest : List Byte} {i : Instr wTime}
    (h : form.read bs = .ok (i, rest)) : ∃ operand, form.Writes i operand ∧ bs = operand ++ rest := by
  cases form with
  | bare j =>
    cases h
    exact ⟨[], .bare _, rfl⟩
  | bit mk =>
    obtain ⟨⟨b, rest⟩, hread, ⟨⟩⟩ := exists_of_map_eq_ok h
    exact ⟨bitBytes b, .bit mk b, readBit_ok hread⟩
  | time mk =>
    obtain ⟨⟨t, rest⟩, hread, ⟨⟩⟩ := exists_of_map_eq_ok h
    exact ⟨timeBytes t, .time mk t, readTime_ok hread⟩
  | inputs mk =>
    obtain ⟨⟨inp, rest⟩, hread, ⟨⟩⟩ := exists_of_map_eq_ok h
    exact ⟨inputsBytes inp, .inputs mk inp, readInputs_ok hread⟩

theorem OperandForm.exists_writes (form : OperandForm wTime) : ∃ i operand, form.Writes i operand := by
  cases form with
  | bare i => exact ⟨_, _, .bare i⟩
  | bit mk => exact ⟨_, _, .bit mk false⟩
  | time mk => exact ⟨_, _, .time mk 0#wTime⟩
  | inputs mk => exact ⟨_, _, .inputs mk (inputsOfWord 0#(wTime + 4))⟩

/-- Every operation has its row in the table. -/
theorem exists_op6Rows_lookup (P : Params wHist wTime) {i : Instr wTime} (h : formatOf i = .op6) :
    ∃ b form operand, encodeAt P i = b :: operand ∧ op6Rows.lookup b = some form ∧ form.Writes i operand := by
  cases i with
  | debUpdate b | lsUpdate b | seqOverride b => exact ⟨_, _, _, rfl, rfl, .bit _ b⟩
  | tmrRecord t | tmrElapsed t | tmrHeld t | btnEvents t => exact ⟨_, _, _, rfl, rfl, .time _ t⟩
  | seqTick inp => exact ⟨_, _, _, rfl, rfl, .inputs _ inp⟩
  | debIsUp | debIsDown | debIsPressed | debIsReleased | lsIsHigh | lsIsLow | lsWentHigh | lsWentLow
  | ioReadPower | ioReadUsb | ioReadBoot | ioEnAssert | ioEnDeassert | ioSdAssert | ioSdDeassert | ioHalt
  | seqReset => exact ⟨_, _, _, rfl, rfl, .bare _⟩
  | phStart | phPowerwait0 | phPowerwait1 | phPoweron | phBootwait0 | phBootwait1 | phBoot | phShutdown0 | phShutdown1
  | phPoweroff0 | phPoweroff1 | phPoweroff2 | phIdle0 | phIdle1 | phIdle2 | phReserved
  | histPressed | histReleased | histDown | histUp => cases h

/-- Every row of the table is the encoding of its operations. -/
theorem encodeAt_of_mem_op6Rows (P : Params wHist wTime) {b : Byte} {form : OperandForm wTime}
    (hrow : (b, form) ∈ op6Rows) {i : Instr wTime} {operand : List Byte} (hw : form.Writes i operand) :
    formatOf i = .op6 ∧ encodeAt P i = b :: operand := by
  fin_cases hrow <;> cases hw <;> exact ⟨rfl, rfl⟩

/-- Bytes decode to an operation exactly when they begin with its encoding. -/
theorem decodeAt_op6_eq_ok_iff (P : Params wHist wTime) (bs rest : List Byte) (i : Instr wTime) :
    decodeAt P .op6 bs = .ok (i, rest) ↔ formatOf i = .op6 ∧ bs = encodeAt P i ++ rest := by
  constructor
  · intro h
    cases bs with
    | nil => cases h
    | cons b tail =>
      simp only [decodeAt, decodeOp6] at h
      split at h
      · next form hlookup =>
        obtain ⟨operand, hw, rfl⟩ := OperandForm.writes_of_read h
        obtain ⟨hformat, hencode⟩ := encodeAt_of_mem_op6Rows P (op6Rows_mem hlookup) hw
        exact ⟨hformat, by rw [hencode]; rfl⟩
      · cases h
  · rintro ⟨hformat, rfl⟩
    obtain ⟨b, form, operand, hencode, hlookup, hw⟩ := exists_op6Rows_lookup P hformat
    simp only [hencode, decodeAt, decodeOp6, List.cons_append, hlookup, hw.read]

/-- A byte that begins no operation's encoding is unassigned (30_encoding.md R80). -/
theorem decodeAt_op6_unassigned (P : Params wHist wTime) {b : Byte}
    (h : ∀ i : Instr wTime, formatOf i = .op6 → (encodeAt P i).head? ≠ some b) (rest : List Byte) :
    decodeAt P .op6 (b :: rest) = .error .unassigned := by
  have hlookup : (op6Rows (wTime := wTime)).lookup b = none := by
    rw [Option.eq_none_iff_forall_ne_some]
    intro form hform
    obtain ⟨i, operand, hw⟩ := form.exists_writes
    obtain ⟨hformat, hencode⟩ := encodeAt_of_mem_op6Rows P (op6Rows_mem hform) hw
    exact h i hformat (by rw [hencode]; rfl)
  simp only [decodeAt, decodeOp6, hlookup]

/-! ### Phases (30_encoding.md R71, R78) -/

theorem Phase.mem_all (p : Phase) : p ∈ Phase.all := List.mem_of_getElem? p.all_getElem?_index

theorem Phase.codeAt_of_ofCodeAt {P : Params wHist wTime} {c : BitVec 4} {p : Phase}
    (h : Phase.ofCodeAt P c = some p) : p.codeAt P = c := by
  simpa using List.find?_some (p := fun q : Phase => q.codeAt P == c) h

theorem Phase.ofCodeAt_eq_none_iff (P : Params wHist wTime) (c : BitVec 4) :
    Phase.ofCodeAt P c = none ↔ ∀ p : Phase, p.codeAt P ≠ c := by
  simp [Phase.ofCodeAt, Phase.mem_all]

/-- Fifteen phases cannot take all sixteen codes. -/
theorem Phase.exists_ofCodeAt_eq_none (P : Params wHist wTime) : ∃ c, Phase.ofCodeAt P c = none := by
  by_contra! hall
  have hsubset : words 4 ⊆ Phase.all.map (Phase.codeAt P) := fun c _ => by
    obtain ⟨p, hp⟩ := Option.ne_none_iff_exists'.mp (hall c)
    exact List.mem_map.mpr ⟨p, p.mem_all, Phase.codeAt_of_ofCodeAt hp⟩
  exact absurd ((nodup_words 4).subperm hsubset).length_le (by rw [List.length_map]; decide)

/-- The reserved code is no phase's, whatever the codes are (30_encoding.md R78). -/
theorem Phase.ofCodeAt_reservedCode (P : Params wHist wTime) : Phase.ofCodeAt P P.reservedCode = none := by
  obtain ⟨c, hc⟩ := Phase.exists_ofCodeAt_eq_none P
  rw [Params.reservedCode]
  cases hfind : ((List.range 16).map (BitVec.ofNat 4)).find? fun c => (Phase.ofCodeAt P c).isNone with
  | none => exact absurd (by rw [hc]; rfl) (List.find?_eq_none.mp hfind c (mem_words c))
  | some d =>
    exact Option.isNone_iff_eq_none.mp (List.find?_some (p := fun c => (Phase.ofCodeAt P c).isNone) hfind)

/-- Phases with a code each leave one code over. -/
theorem Phase.eq_of_ofCodeAt_eq_none {P : Params wHist wTime} (hcodes : P.codesTellPhasesApart = true) {c d : BitVec 4}
    (hc : Phase.ofCodeAt P c = none) (hd : Phase.ofCodeAt P d = none) : c = d := by
  rw [Phase.ofCodeAt_eq_none_iff] at hc hd
  by_contra hne
  have hnodup : (c :: d :: Phase.all.map (Phase.codeAt P)).Nodup := by
    have hphases := List.Nodup.map (Phase.codeAt_injective hcodes) (show Phase.all.Nodup by decide)
    simp [hne, hc, hd, hphases]
  exact absurd (length_le_of_nodup hnodup) (by rw [List.length_cons, List.length_cons, List.length_map]; decide)

theorem formatOf_eq_phase4_iff (i : Instr wTime) :
    formatOf i = .phase4 ↔ i = .phReserved ∨ ∃ p : Phase, i = p.instr := by
  constructor
  · intro h
    cases i with
    | phReserved => exact .inl rfl
    | phStart => exact .inr ⟨.start, rfl⟩
    | phPowerwait0 => exact .inr ⟨.powerwait0, rfl⟩
    | phPowerwait1 => exact .inr ⟨.powerwait1, rfl⟩
    | phPoweron => exact .inr ⟨.poweron, rfl⟩
    | phBootwait0 => exact .inr ⟨.bootwait0, rfl⟩
    | phBootwait1 => exact .inr ⟨.bootwait1, rfl⟩
    | phBoot => exact .inr ⟨.boot, rfl⟩
    | phShutdown0 => exact .inr ⟨.shutdown0, rfl⟩
    | phShutdown1 => exact .inr ⟨.shutdown1, rfl⟩
    | phPoweroff0 => exact .inr ⟨.poweroff0, rfl⟩
    | phPoweroff1 => exact .inr ⟨.poweroff1, rfl⟩
    | phPoweroff2 => exact .inr ⟨.poweroff2, rfl⟩
    | phIdle0 => exact .inr ⟨.idle0, rfl⟩
    | phIdle1 => exact .inr ⟨.idle1, rfl⟩
    | phIdle2 => exact .inr ⟨.idle2, rfl⟩
    | _ => cases h
  · rintro (rfl | ⟨p, rfl⟩)
    · rfl
    · exact formatOf_instr p

/-- The instruction of a 4-bit code. -/
def instrOfCodeAt (P : Params wHist wTime) (c : BitVec 4) : Instr wTime :=
  match Phase.ofCodeAt P c with
  | some p => p.instr
  | none => .phReserved

theorem instrOfCodeAt_codeAt {P : Params wHist wTime} (hcodes : P.codesTellPhasesApart = true) (p : Phase) :
    instrOfCodeAt P (p.codeAt P) = p.instr := by
  rw [instrOfCodeAt, Phase.ofCodeAt_codeAt hcodes]

theorem instrOfCodeAt_reservedCode (P : Params wHist wTime) : instrOfCodeAt P P.reservedCode = .phReserved := by
  rw [instrOfCodeAt, Phase.ofCodeAt_reservedCode]

theorem formatOf_instrOfCodeAt (P : Params wHist wTime) (c : BitVec 4) : formatOf (instrOfCodeAt P c) = .phase4 := by
  rw [instrOfCodeAt]
  split
  · exact formatOf_instr _
  · rfl

theorem encodeAt_instrOfCodeAt {P : Params wHist wTime} (hcodes : P.codesTellPhasesApart = true) (c : BitVec 4) :
    encodeAt P (instrOfCodeAt P c) = [c.setWidth 8] := by
  rw [instrOfCodeAt]
  split
  · next p hp => rw [encodeAt_instr, Phase.codeAt_of_ofCodeAt hp]
  · next hnone => rw [encodeAt, Phase.eq_of_ofCodeAt_eq_none hcodes (Phase.ofCodeAt_reservedCode P) hnone]

theorem exists_eq_instrOfCodeAt {P : Params wHist wTime} (hcodes : P.codesTellPhasesApart = true) {i : Instr wTime}
    (h : formatOf i = .phase4) : ∃ c, i = instrOfCodeAt P c := by
  rcases (formatOf_eq_phase4_iff i).mp h with rfl | ⟨p, rfl⟩
  · exact ⟨P.reservedCode, (instrOfCodeAt_reservedCode P).symm⟩
  · exact ⟨p.codeAt P, (instrOfCodeAt_codeAt hcodes p).symm⟩

/-- A byte is a code when its high half is zero (30_encoding.md R70). -/
theorem decodeAt_phase4_cons (P : Params wHist wTime) (b : Byte) (rest : List Byte) :
    decodeAt P .phase4 (b :: rest) =
      if b = (b.setWidth 4).setWidth 8 then .ok (instrOfCodeAt P (b.setWidth 4), rest) else .error .padding := by
  have hhigh : (b >>> 4 == 0#8) = decide (b = (b.setWidth 4).setWidth 8) := by
    rw [Bool.eq_iff_iff, beq_iff_eq, decide_eq_true_iff, ← BitVec.toNat_inj, ← BitVec.toNat_inj]
    simp only [BitVec.toNat_ushiftRight, BitVec.toNat_setWidth, BitVec.toNat_ofNat, Nat.shiftRight_eq_div_pow]
    omega
  simp only [decodeAt, decodePhase4, hhigh, decide_eq_true_iff, instrOfCodeAt]
  cases Phase.ofCodeAt P (b.setWidth 4) <;> rfl

/-- Bytes decode to a phase rule, or to the reserved row, exactly when they begin with its code. -/
theorem decodeAt_phase4_eq_ok_iff {P : Params wHist wTime} (hcodes : P.codesTellPhasesApart = true)
    (bs rest : List Byte) (i : Instr wTime) :
    decodeAt P .phase4 bs = .ok (i, rest) ↔ formatOf i = .phase4 ∧ bs = encodeAt P i ++ rest := by
  constructor
  · intro h
    cases bs with
    | nil => cases h
    | cons b tail =>
      rw [decodeAt_phase4_cons] at h
      split at h
      · next hb =>
        cases h
        exact ⟨formatOf_instrOfCodeAt P _, by rw [encodeAt_instrOfCodeAt hcodes, ← hb]; rfl⟩
      · cases h
  · rintro ⟨hformat, rfl⟩
    obtain ⟨c, rfl⟩ := exists_eq_instrOfCodeAt hcodes hformat
    have hlow : (c.setWidth 8).setWidth 4 = c := BitVec.setWidth_setWidth_of_le c (by decide)
    rw [encodeAt_instrOfCodeAt hcodes, List.singleton_append, decodeAt_phase4_cons, hlow, if_pos rfl]

/-! ### Histories (30_encoding.md R72, R73) -/

theorem bitsBytes_injective (w : Nat) : Function.Injective (bitsBytes (w := w)) := by
  intro v w h
  have hv := readBits_bitsBytes v []
  rw [h, readBits_bitsBytes] at hv
  cases hv
  rfl

theorem bitsBytes_history (h : History) : bitsBytes h = [h] := by
  show [BitVec.ofNat 8 h.toNat] = [h]
  rw [BitVec.ofNat_toNat, BitVec.setWidth_eq]

theorem decodeAt_hist8_eq_ok_iff (P : Params wHist wTime) (bs rest : List Byte) (i : Instr wTime) :
    decodeAt P .hist8 bs = .ok (i, rest) ↔ ∃ h, decodeHistAt P h = some i ∧ bs = bitsBytes h ++ rest := by
  constructor
  · intro hdecode
    simp only [decodeAt, decodeHist8] at hdecode
    split at hdecode
    · next h tail hread =>
      split at hdecode
      · next j hj =>
        cases hdecode
        exact ⟨h, hj, readBits_ok hread⟩
      · cases hdecode
    · cases hdecode
  · rintro ⟨h, hdecode, rfl⟩
    simp only [decodeAt, decodeHist8, readBits_bitsBytes, hdecode]

/-- A history is its three fields HI, MID and LO (30_encoding.md R72). -/
theorem history_eq_fields (h : History) : h = h.extractLsb' 6 2 ++ h.extractLsb' 3 3 ++ h.extractLsb' 0 3 := by
  have hupper : h.extractLsb' 6 2 ++ h.extractLsb' 3 3 = h.extractLsb' 3 5 :=
    BitVec.extractLsb'_append_extractLsb'_eq_extractLsb' rfl
  rw [hupper]
  exact (BitVec.extractLsb'_append_extractLsb' (w := 5) (len := 3)).symm

theorem extractLsb'_fields (hi : BitVec 2) (mid lo : BitVec 3) : (hi ++ mid ++ lo).extractLsb' 3 3 = mid := by
  rw [BitVec.extractLsb'_append_eq_of_le (by decide), BitVec.extractLsb'_append_eq_right]

/-- The mask leaves MID out (30_encoding.md R72). -/
theorem fields_and_debMask (hi : BitVec 2) (mid lo : BitVec 3) :
    (hi ++ mid ++ lo) &&& Config.params.debMask = hi ++ 0#3 ++ lo := by
  calc (hi ++ mid ++ lo) &&& Config.params.debMask
      = (hi ++ mid ++ lo) &&& (BitVec.allOnes 2 ++ 0#3 ++ BitVec.allOnes 3) := rfl
    _ = hi ++ 0#3 ++ lo := by simp only [BitVec.and_append, BitVec.and_allOnes, BitVec.and_zero]

theorem bitVec_append_inj {m n : Nat} {a c : BitVec m} {b d : BitVec n} (h : a ++ b = c ++ d) : a = c ∧ b = d := by
  constructor
  · rw [← BitVec.extractLsb'_append_eq_left (a := a) (b := b), h, BitVec.extractLsb'_append_eq_left]
  · rw [← BitVec.extractLsb'_append_eq_right (a := a) (b := b), h, BitVec.extractLsb'_append_eq_right]

/-- A history matches a pattern when its other two fields are the pattern's. -/
theorem and_debMask_eq_iff (h : History) (hi : BitVec 2) (lo : BitVec 3) :
    h &&& Config.params.debMask = hi ++ 0#3 ++ lo ↔ ∃ mid : BitVec 3, h = hi ++ mid ++ lo := by
  constructor
  · intro hmask
    rw [history_eq_fields h, fields_and_debMask] at hmask
    obtain ⟨hhi, hlo⟩ := bitVec_append_inj hmask
    obtain ⟨hhi, -⟩ := bitVec_append_inj hhi
    exact ⟨h.extractLsb' 3 3, by rw [← hhi, ← hlo, ← history_eq_fields]⟩
  · rintro ⟨mid, rfl⟩
    exact fields_and_debMask hi mid lo

theorem matchesDebPressed_iff (h : History) : 
    h &&& Config.params.debMask = Config.params.debPressed ↔ ∃ mid : BitVec 3, h = 0b11#2 ++ mid ++ 0b000#3 :=
  and_debMask_eq_iff h 0b11#2 0b000#3

theorem matchesDebReleased_iff (h : History) : 
    h &&& Config.params.debMask = Config.params.debReleased ↔ ∃ mid : BitVec 3, h = 0b00#2 ++ mid ++ 0b111#3 :=
  and_debMask_eq_iff h 0b00#2 0b111#3

/-- The histories that decode, and to what (30_encoding.md R73). -/
theorem decodeHist_eq_some_iff (h : History) (i : Instr) :
    decodeHist h = some i ↔
      (∃ mid : BitVec 3, h = 0b11#2 ++ mid ++ 0b000#3 ∧ i = .histPressed mid) ∨
      (∃ mid : BitVec 3, h = 0b00#2 ++ mid ++ 0b111#3 ∧ i = .histReleased mid) ∨
      (h = 0x00#8 ∧ i = .histDown) ∨ (h = 0xFF#8 ∧ i = .histUp) := by
  constructor
  · intro hdecode
    simp only [decodeHist, decodeHistAt, beq_iff_eq] at hdecode
    split at hdecode
    · next hmask =>
      obtain ⟨mid, rfl⟩ := (matchesDebPressed_iff h).mp hmask
      rw [extractLsb'_fields] at hdecode
      exact .inl ⟨mid, rfl, (Option.some.inj hdecode).symm⟩
    split at hdecode
    · next hmask =>
      obtain ⟨mid, rfl⟩ := (matchesDebReleased_iff h).mp hmask
      rw [extractLsb'_fields] at hdecode
      exact .inr (.inl ⟨mid, rfl, (Option.some.inj hdecode).symm⟩)
    split at hdecode
    · next hdown => exact .inr (.inr (.inl ⟨hdown, (Option.some.inj hdecode).symm⟩))
    split at hdecode
    · next hup => exact .inr (.inr (.inr ⟨hup, (Option.some.inj hdecode).symm⟩))
    · cases hdecode
  · rintro (⟨mid, rfl, rfl⟩ | ⟨mid, rfl, rfl⟩ | ⟨rfl, rfl⟩ | ⟨rfl, rfl⟩)
    · revert mid
      decide
    · revert mid
      decide
    · rfl
    · rfl

theorem decodeHist_histPressed_iff (h : History) (mid : BitVec 3) :
    decodeHist h = some (.histPressed mid) ↔ h = 0b11#2 ++ mid ++ 0b000#3 := by
  simp [decodeHist_eq_some_iff]

theorem decodeHist_histReleased_iff (h : History) (mid : BitVec 3) :
    decodeHist h = some (.histReleased mid) ↔ h = 0b00#2 ++ mid ++ 0b111#3 := by
  simp [decodeHist_eq_some_iff]

theorem decodeHist_histDown_iff (h : History) : decodeHist h = some .histDown ↔ h = 0x00#8 := by
  simp [decodeHist_eq_some_iff]

theorem decodeHist_histUp_iff (h : History) : decodeHist h = some .histUp ↔ h = 0xFF#8 := by
  simp [decodeHist_eq_some_iff]

theorem encode_histPressed (mid : BitVec 3) : encode (.histPressed mid) = bitsBytes (0b11#2 ++ mid ++ 0b000#3) :=
  congrArg bitsBytes (patternWith_pressed mid)

theorem encode_histReleased (mid : BitVec 3) : encode (.histReleased mid) = bitsBytes (0b00#2 ++ mid ++ 0b111#3) :=
  congrArg bitsBytes (patternWith_released mid)

theorem encode_histDown : encode .histDown = bitsBytes 0x00#8 := rfl

theorem encode_histUp : encode .histUp = bitsBytes 0xFF#8 := rfl

/-- A history decodes to an instruction exactly when it is that instruction's word. -/
theorem decodeHist_eq_some_iff_encode (h : History) (i : Instr) :
    decodeHist h = some i ↔ formatOf i = .hist8 ∧ bitsBytes h = encode i := by
  have hword : ∀ v : History, bitsBytes h = bitsBytes v ↔ h = v := fun v => (bitsBytes_injective 8).eq_iff
  cases i with
  | histPressed mid => simp [decodeHist_histPressed_iff, encode_histPressed, formatOf, hword]
  | histReleased mid => simp [decodeHist_histReleased_iff, encode_histReleased, formatOf, hword]
  | histDown => simp [decodeHist_histDown_iff, encode_histDown, formatOf, hword]
  | histUp => simp [decodeHist_histUp_iff, encode_histUp, formatOf, hword]
  | _ => simp [decodeHist_eq_some_iff, formatOf]

/-- Bytes decode to a history's event at the default patterns exactly when they begin with its word. -/
theorem decode_hist8_eq_ok_iff (bs rest : List Byte) (i : Instr) :
    decode .hist8 bs = .ok (i, rest) ↔ formatOf i = .hist8 ∧ bs = encode i ++ rest := by
  rw [decode_eq, decodeAt_hist8_eq_ok_iff]
  constructor
  · rintro ⟨h, hdecode, rfl⟩
    obtain ⟨hformat, hencode⟩ := (decodeHist_eq_some_iff_encode h i).mp hdecode
    exact ⟨hformat, by rw [hencode]⟩
  · rintro ⟨hformat, rfl⟩
    obtain ⟨h, hword⟩ : ∃ h : History, bitsBytes h = encode i := by
      cases i with
      | histPressed | histReleased | histDown | histUp => exact ⟨_, rfl⟩
      | _ => cases hformat
    exact ⟨h, (decodeHist_eq_some_iff_encode h i).mpr ⟨hformat, hword⟩, by rw [hword]⟩

/-- The history register holds one whole word. -/
theorem decode_hist8_singleton_iff (h : History) (i : Instr) :
    decode .hist8 [h] = .ok (i, []) ↔ decodeHist h = some i := by
  rw [decode_hist8_eq_ok_iff, decodeHist_eq_some_iff_encode, bitsBytes_history, List.append_nil]

/-- The histories that decode: eight for each event, and the two settled ones (30_encoding.md R73). -/
def decodingHistories : List History :=
  (words 3).map (fun mid => 0b11#2 ++ mid ++ 0b000#3) ++ (words 3).map (fun mid => 0b00#2 ++ mid ++ 0b111#3) ++
    [0x00#8, 0xFF#8]

theorem mem_decodingHistories_iff (h : History) : h ∈ decodingHistories ↔ (decodeHist h).isSome = true := by
  rw [Option.isSome_iff_exists]
  simp only [decodeHist_eq_some_iff, decodingHistories, List.mem_append, List.mem_map, mem_words, true_and,
    List.mem_cons, List.not_mem_nil, or_false]
  constructor
  · rintro ((⟨mid, rfl⟩ | ⟨mid, rfl⟩) | rfl | rfl)
    · exact ⟨_, .inl ⟨mid, rfl, rfl⟩⟩
    · exact ⟨_, .inr (.inl ⟨mid, rfl, rfl⟩)⟩
    · exact ⟨_, .inr (.inr (.inl ⟨rfl, rfl⟩))⟩
    · exact ⟨_, .inr (.inr (.inr ⟨rfl, rfl⟩))⟩
  · rintro ⟨i, ⟨mid, rfl, -⟩ | ⟨mid, rfl, -⟩ | ⟨rfl, -⟩ | ⟨rfl, -⟩⟩
    · exact .inl (.inl ⟨mid, rfl⟩)
    · exact .inl (.inr ⟨mid, rfl⟩)
    · exact .inr (.inl rfl)
    · exact .inr (.inr rfl)

/-- Of the 256 histories 18 decode. -/
theorem countP_decodeHist_isNone : (words 8).countP (fun h => (decodeHist h).isNone) = 238 := by
  have hperm : ((words 8).filter fun h => (decodeHist h).isSome).Perm decodingHistories := by
    refine (List.perm_ext_iff_of_nodup ((nodup_words 8).filter _) (by decide)).mpr fun h => ?_
    rw [mem_decodingHistories_iff, List.mem_filter, and_iff_right (mem_words h)]
  have hsome : (words 8).countP (fun h => (decodeHist h).isSome) = 18 :=
    List.countP_eq_length_filter.trans hperm.length_eq
  have htotal := List.length_eq_countP_add_countP (fun h => (decodeHist h).isSome) (l := words 8)
  simp only [length_words, hsome, Bool.not_eq_true, Option.isSome_eq_false_iff, Bool.decide_eq_true] at htotal
  omega

theorem codesTellPhasesApart_default : (Config.params 8 32).codesTellPhasesApart = true := by decide

/-- At the default parameters, in every format: bytes decode to an instruction exactly when they begin with its
encoding. -/
theorem decode_eq_ok_iff (f : Format) (bs rest : List Byte) (i : Instr) :
    decode f bs = .ok (i, rest) ↔ formatOf i = f ∧ bs = encode i ++ rest := by
  cases f with
  | op6 => exact decodeAt_op6_eq_ok_iff Config.params bs rest i
  | phase4 => exact decodeAt_phase4_eq_ok_iff codesTellPhasesApart_default bs rest i
  | hist8 => exact decode_hist8_eq_ok_iff bs rest i

end Sys2Proof

namespace Sys2Proof.Machine

open Sys2Proof

variable {wHist wTime : Nat}

theorem stepAt_of_decode_error {P : Params wHist wTime} {s : State.Of wHist wTime} {b : Byte} {bs : List Byte}
    {e : DecodeError} (hsel : s.select = .script) (hscript : s.script = b :: bs)
    (h : decodeAt P .op6 (b :: bs) = .error e) : stepAt P s = .refused (refusalOf e) := by
  rw [stepAt, fetchAndRun, hsel]
  simp only [runScript, hscript, h]

theorem stepAt_of_decodeHistAt_some {P : Params wHist wTime} {s : State.Of wHist wTime} {i : Instr wTime}
    (hsel : s.select = .historyRegister) (h : decodeHistAt P s.history = some i) :
    stepAt P s = execAt P i (s.setSelect .script) := by
  rw [stepAt, fetchAndRun, hsel]
  simp only [runHistory, State.Of.setSelect_history, h]

theorem stepAt_of_decodeHistAt_none {P : Params wHist wTime} {s : State.Of wHist wTime}
    (hsel : s.select = .historyRegister) (h : decodeHistAt P s.history = none) :
    stepAt P s = .next (s.setSelect .script) := by
  rw [stepAt, fetchAndRun, hsel]
  simp only [runHistory, State.Of.setSelect_history, h]

theorem stepAt_of_reservedCode (P : Params wHist wTime) {s : State.Of wHist wTime} (hsel : s.select = .reservedCode) :
    stepAt P s = execAt P .phReserved (s.setSelect .script) := by
  rw [stepAt, fetchAndRun, hsel]

/-! ### Ticks from a script (30_encoding.md R82) -/

theorem beforePhases_setScript (P : Params wHist wTime) (inp : TickInputs wTime) (bs : List Byte)
    (s : State.Of wHist wTime) : beforePhases P inp (s.setScript bs) = (beforePhases P inp s).setScript bs := by
  rw [beforePhases_eq, beforePhases_eq]
  rfl

theorem evaluatePhase_setScript (P : Params wHist wTime) (bs : List Byte) (s : State.Of wHist wTime) :
    evaluatePhase P (s.setScript bs) = (evaluatePhase P s).setScript bs := by
  rw [evaluatePhase_eq, evaluatePhase_eq]
  rfl

theorem evaluateChain_setScript (P : Params wHist wTime) (n : Nat) (bs : List Byte) (s : State.Of wHist wTime) :
    evaluateChain P n (s.setScript bs) = (evaluateChain P n s).setScript bs :=
  evaluateChain_related P (R := fun s t => t = s.setScript bs) (by rintro s _ rfl; rfl)
    (by rintro s _ rfl; exact evaluatePhase_setScript P bs s) n rfl

/-- A tick does not read the pending script. -/
theorem tick_setScript (P : Params wHist wTime) (inp : TickInputs wTime) (bs : List Byte) (s : State.Of wHist wTime) :
    tick P inp (s.setScript bs) = (tick P inp s).setScript bs := by
  rw [tick_eq, tick_eq, beforePhases_setScript, evaluateChain_setScript]
  rfl

theorem scriptBytes_tick_cons (inp : TickInputs 32) (lines : List (ScriptLine 32)) :
    scriptBytes (.tick inp :: lines) = encode (.seqTick inp) ++ scriptBytes lines := rfl

/-- A step on a script that begins with a tick line is that tick (00_scope.md R14). -/
theorem step_tick_line (inp : TickInputs 32) (lines : List (ScriptLine 32)) {s : State} (hsel : s.select = .script) :
    step (s.setScript (scriptBytes (.tick inp :: lines))) =
      .next ((tick Config.params inp s).setScript (scriptBytes lines)) := by
  have hdecode : decodeAt Config.params .op6 (scriptBytes (.tick inp :: lines)) =
      .ok (.seqTick inp, scriptBytes lines) :=
    (decode_eq_ok_iff .op6 _ _ _).mpr ⟨rfl, scriptBytes_tick_cons inp lines⟩
  calc step (s.setScript (scriptBytes (.tick inp :: lines)))
      = execAt Config.params (.seqTick inp) (s.setScript (scriptBytes lines)) :=
        (step_eq_stepAt _).trans (stepAt_of_decode hsel hdecode)
    _ = .next (tick Config.params inp (s.setScript (scriptBytes lines))) := rfl
    _ = .next ((tick Config.params inp s).setScript (scriptBytes lines)) := by rw [tick_setScript]

theorem run_succ_of_step (n : Nat) {s t : State} (h : step s = .next t) :
    Host.Core.run core (n + 1) s = Host.Core.run core n t := by
  have hcore : core.step s = .next t := h
  simp only [Host.Core.run, hcore]

/-! ### The statements of 30_encoding.md -/

/-- Settles O2: the direction from the encoding to the decoding, in each format. -/
theorem decodeInvertsEncode : Obligations.DecodeInvertsEncode := by
  refine ⟨fun i rest => (decode_eq_ok_iff _ _ _ _).mpr ⟨rfl, rfl⟩, fun wHist wTime P i rest h => ?_⟩
  rcases h with hop | ⟨hphase, hcodes⟩
  · rw [hop]
    exact (decodeAt_op6_eq_ok_iff P _ _ _).mpr ⟨hop, rfl⟩
  · rw [hphase]
    exact (decodeAt_phase4_eq_ok_iff hcodes _ _ _).mpr ⟨hphase, rfl⟩

/-- Settles O3: the direction from the decoding to the encoding, in each format. -/
theorem encodeInvertsDecode : Obligations.EncodeInvertsDecode :=
  ⟨fun f bs rest i => (decode_eq_ok_iff f bs rest i).mp,
    fun _ _ P bs rest i => (decodeAt_op6_eq_ok_iff P bs rest i).mp⟩

/-- Settles O6: such a byte is not in the table, and the step hands on the decoder's reason. -/
theorem unassignedOperationIsRefused : Obligations.UnassignedOperationIsRefused := by
  intro s b rest hsel hscript hnone
  rw [step_eq_stepAt]
  exact stepAt_of_decode_error hsel hscript (decodeAt_op6_unassigned Config.params hnone rest)

/-- Settles O15: where the history decodes so, the query fires. -/
theorem historyDecodesActAsTheirQueries : Obligations.HistoryDecodesActAsTheirQueries := by
  intro s
  refine ⟨fun mid => ⟨rfl, rfl⟩, rfl, rfl, fun i hi => ?_⟩
  rcases (decodeHist_eq_some_iff s.history i).mp hi with
    ⟨mid, hh, rfl⟩ | ⟨mid, hh, rfl⟩ | ⟨hh, rfl⟩ | ⟨hh, rfl⟩
  · have hfires := execAt_debIsPressed_fires ((matchesDebPressed_iff s.history).mpr ⟨mid, hh⟩)
    exact ((exec_eq_execAt _ s).trans hfires).symm
  · have hfires := execAt_debIsReleased_fires ((matchesDebReleased_iff s.history).mpr ⟨mid, hh⟩)
    exact ((exec_eq_execAt _ s).trans hfires).symm
  · show exec .histDown s = .next (withResult (.bit (s.history == 0x00#8)) s)
    rw [hh]
    rfl
  · show exec .histUp s = .next (withResult (.bit (s.history == 0xFF#8)) s)
    rw [hh]
    rfl

/-- Settles O58, by induction on the lines: each step is one tick, which leaves the rest of the script. -/
theorem scriptRunsItsLines : Obligations.ScriptRunsItsLines := by
  intro inps
  induction inps with
  | nil => exact fun s _ => rfl
  | cons inp rest ih =>
    intro s hsel
    have hstep := step_tick_line inp (rest.map ScriptLine.tick) hsel
    calc core.run (rest.length + 1) (s.setScript (scriptBytes (.tick inp :: rest.map ScriptLine.tick)))
        = core.run rest.length ((tick Config.params inp s).setScript (scriptBytes (rest.map ScriptLine.tick))) :=
          run_succ_of_step _ hstep
      _ = .next ((runTicks Config.params rest (tick Config.params inp s)).setScript []) :=
          ih _ (tick_select Config.params inp s)

/-- Settles O1: each word is the encoding of its instruction, with the bytes after it. -/
theorem encodedWordsDecode : Obligations.EncodedWordsDecode := by
  have hdecode : ∀ (i : Instr) (rest : List Byte), decode (formatOf i) (encode i ++ rest) = .ok (i, rest) :=
    decodeInvertsEncode.1
  exact ⟨hdecode .debIsPressed [], hdecode (.debUpdate true) [], hdecode .lsWentLow [0xFF#8],
    hdecode (.tmrRecord 1040#32) [], hdecode .ioEnAssert [], hdecode (.seqTick ⟨1500#32, true, true, true, false⟩) [],
    hdecode .phBoot [], hdecode (.histPressed 0b010#3) [], hdecode (.histReleased 0b111#3) []⟩

/-- Settles O4: the events are the histories of their fields, and 18 of them decode. -/
theorem historyDecodesArePatterns : Obligations.HistoryDecodesArePatterns := by
  refine ⟨fun h mid => ⟨decodeHist_histPressed_iff h mid, decodeHist_histReleased_iff h mid⟩, fun h => ?_, ?_⟩
  · simp only [decodeHist_histPressed_iff, decodeHist_histReleased_iff, decodeHist_histDown_iff, decodeHist_histUp_iff,
      true_and]
    exact ⟨(matchesPressed_iff _ h).trans (matchesDebPressed_iff h),
      (matchesReleased_iff _ h).trans (matchesDebReleased_iff h), beq_iff_eq, beq_iff_eq⟩
  · exact countP_decodeHist_isNone

/-- Settles O5: code 15 is the code that the fifteen phases leave over. -/
theorem reservedPhaseIsRefused : Obligations.ReservedPhaseIsRefused := by
  have hnone : Phase.ofCode 0b1111#4 = none := Phase.ofCodeAt_reservedCode Config.params
  refine ⟨fun p => ⟨(Phase.ofCodeAt_eq_none_iff _ _).mp hnone p, ofCode_code p⟩, hnone, fun _ => rfl,
    fun s hsel => ?_⟩
  rw [step_eq_stepAt, stepAt_of_reservedCode _ hsel]
  rfl

/-- Settles O7: the case of the default parameters. -/
theorem stepRunsTheDecodedOperation : Obligations.StepRunsTheDecodedOperation := by
  intro s i rest hsel hdecode
  rw [step_eq_stepAt, exec_eq_execAt]
  exact stepAt_of_decode hsel hdecode

/-- Settles O8: the phase's code decodes to its rule, and the history is one whole word. -/
theorem stepRunsTheRegisterSelectedRule : Obligations.StepRunsTheRegisterSelectedRule := by
  intro s
  refine ⟨fun hsel => ⟨?_, ?_⟩, fun hsel i hdecode => ?_, fun hsel hdecode => ?_⟩
  · exact decodeAt_phase4_codeAt codesTellPhasesApart_default s.phase []
  · rw [step_eq_stepAt, exec_eq_execAt]
    exact stepAt_of_phaseRegister _ hsel
  · rw [step_eq_stepAt, exec_eq_execAt]
    exact stepAt_of_decodeHistAt_some hsel ((decode_hist8_singleton_iff _ i).mp hdecode)
  · have hnone : decodeHist s.history = none := by
      rw [Option.eq_none_iff_forall_ne_some]
      intro i hi
      rw [(decode_hist8_singleton_iff _ i).mpr hi] at hdecode
      cases hdecode
    rw [step_eq_stepAt]
    exact stepAt_of_decodeHistAt_none hsel hnone

end Sys2Proof.Machine

/-! SUPPORT. The debouncer's updates and queries over sequences of samples: the mirror image, equal samples, pulses
and bounce, and the statements of 40_debouncer.md. -/

namespace Sys2Proof.Machine

open Sys2Proof

variable {wHist wTime : Nat}

/-! ### The queries after an update -/

theorem sampleAndQuery_eq_queried (P : Params wHist wTime) (h : History wHist) (x : Bool) :
    sampleAndQuery P h x = queried P (shiftIn h x) := rfl

theorem queried_of_press {P : Params wHist wTime} {h : History wHist} (hp : matchesPressed P h = true)
    (hdown : matchesReleased P P.debDown = false) : queried P h = (P.debDown, true, false) := by
  simp [queried, hp, hdown]

/-- The mask of the default debouncer keeps five bits of a history (30_encoding.md R72). -/
theorem and_debMask_eq_and_debMask_iff (h p : History) :
    h &&& Config.params.debMask = p &&& Config.params.debMask ↔
      h.getLsbD 7 = p.getLsbD 7 ∧ h.getLsbD 6 = p.getLsbD 6 ∧
        h.getLsbD 2 = p.getLsbD 2 ∧ h.getLsbD 1 = p.getLsbD 1 ∧ h.getLsbD 0 = p.getLsbD 0 := by
  have hmask : ∀ i < 8, Config.params.debMask.getLsbD i = decide (i < 3 ∨ 6 ≤ i) := by decide
  rw [BitVec.eq_of_getLsbD_eq_iff]
  simp only [BitVec.getLsbD_and]
  constructor
  · intro hbits
    have hkept : ∀ i < 8, i < 3 ∨ 6 ≤ i → h.getLsbD i = p.getLsbD i := fun i hi hkeep => by
      have hbit := hbits i hi
      rwa [hmask i hi, decide_eq_true hkeep, Bool.and_true, Bool.and_true] at hbit
    exact ⟨hkept 7 (by omega) (by omega), hkept 6 (by omega) (by omega), hkept 2 (by omega) (by omega),
      hkept 1 (by omega) (by omega), hkept 0 (by omega) (by omega)⟩
  · rintro ⟨h7, h6, h2, h1, h0⟩ i hi
    rw [hmask i hi]
    by_cases hkeep : i < 3 ∨ 6 ≤ i
    · obtain rfl | rfl | rfl | rfl | rfl : i = 7 ∨ i = 6 ∨ i = 2 ∨ i = 1 ∨ i = 0 := by omega
      all_goals simp only [h7, h6, h2, h1, h0]
    · simp [hkeep]

theorem matchesPressed_default_iff (h : History) :
    matchesPressed Config.params h = true ↔
      h.getLsbD 7 = true ∧ h.getLsbD 6 = true ∧
        h.getLsbD 2 = false ∧ h.getLsbD 1 = false ∧ h.getLsbD 0 = false :=
  (matchesPressed_iff _ h).trans (and_debMask_eq_and_debMask_iff h Config.params.debPressed)

theorem matchesReleased_default_iff (h : History) :
    matchesReleased Config.params h = true ↔
      h.getLsbD 7 = false ∧ h.getLsbD 6 = false ∧
        h.getLsbD 2 = true ∧ h.getLsbD 1 = true ∧ h.getLsbD 0 = true :=
  (matchesReleased_iff _ h).trans (and_debMask_eq_and_debMask_iff h Config.params.debReleased)

/-! ### The mirror image: with every bit and sample inverted, presses and releases trade places -/

theorem shiftIn_complement (h : History wHist) (x : Bool) : shiftIn (~~~h) (!x) = ~~~shiftIn h x := by
  apply BitVec.eq_of_getLsbD_eq
  intro i hi
  rw [BitVec.getLsbD_not, shiftIn_getLsbD, shiftIn_getLsbD]
  cases i with
  | zero => simp [hi]
  | succ i => simp [hi, show i < wHist by omega]

theorem matchesPressed_complement (h : History) :
    matchesPressed Config.params (~~~h) = matchesReleased Config.params h := by
  rw [Bool.eq_iff_iff, matchesPressed_default_iff, matchesReleased_default_iff]
  simp

theorem matchesReleased_complement (h : History) :
    matchesReleased Config.params (~~~h) = matchesPressed Config.params h := by
  rw [← matchesPressed_complement, BitVec.not_not]

/-- No history matches both patterns (40_debouncer.md R106). -/
theorem matchesReleased_eq_false_of_matchesPressed {h : History} (hp : matchesPressed Config.params h = true) :
    matchesReleased Config.params h = false := by
  obtain ⟨h7, -⟩ := (matchesPressed_default_iff h).mp hp
  rw [Bool.eq_false_iff, ne_eq, matchesReleased_default_iff, h7]
  simp

theorem queried_complement (h : History) :
    queried Config.params (~~~h) = (~~~(queried Config.params h).1, (queried Config.params h).2.swap) := by
  cases hp : matchesPressed Config.params h with
  | true =>
    have hr := matchesReleased_eq_false_of_matchesPressed hp
    rw [queried_of_press hp matchesReleased_debDown_default]
    simp [queried, matchesPressed_complement, matchesReleased_complement, hp, hr]
  | false =>
    cases hr : matchesReleased Config.params h with
    | true =>
      have hdown := queried_of_press (h := ~~~h) (matchesPressed_complement h ▸ hr) matchesReleased_debDown_default
      rw [hdown]
      simp [queried, hp, hr]
    | false => simp [queried, matchesPressed_complement, matchesReleased_complement, hp, hr]

theorem debounce_complement (h : History) (xs : List Bool) :
    debounce Config.params (~~~h) (xs.map not) = (debounce Config.params h xs).map Prod.swap := by
  induction xs generalizing h with
  | nil => rfl
  | cons x xs ih =>
    have hstep : sampleAndQuery Config.params (~~~h) (!x) =
        (~~~(sampleAndQuery Config.params h x).1, (sampleAndQuery Config.params h x).2.swap) := by
      simp only [sampleAndQuery_eq_queried, shiftIn_complement, queried_complement]
    rw [List.map_cons, debounce, debounce, hstep, ih, List.map_cons]

/-! ### Sample sequences, one after another -/

theorem debounce_append (P : Params wHist wTime) (h : History wHist) (xs ys : List Bool) :
    debounce P h (xs ++ ys) = debounce P h xs ++ debounce P (debounceHistory P h xs) ys := by
  induction xs generalizing h with
  | nil => rfl
  | cons x xs ih => simp only [List.cons_append, debounce, debounceHistory, ih]

theorem debounceHistory_append (P : Params wHist wTime) (h : History wHist) (xs ys : List Bool) :
    debounceHistory P h (xs ++ ys) = debounceHistory P (debounceHistory P h xs) ys := by
  induction xs generalizing h with
  | nil => rfl
  | cons x xs ih => exact ih _

@[simp] theorem length_debounce (P : Params wHist wTime) (h : History wHist) (xs : List Bool) :
    (debounce P h xs).length = xs.length := by
  induction xs generalizing h with
  | nil => rfl
  | cons x xs ih => simp only [debounce, List.length_cons, ih]

/-- A shorter sequence gives the first of the events. -/
theorem debounce_take (P : Params wHist wTime) (h : History wHist) (xs : List Bool) (n : Nat) :
    debounce P h (xs.take n) = (debounce P h xs).take n := by
  induction xs generalizing h n with
  | nil => simp [debounce]
  | cons x xs ih =>
    cases n with
    | zero => rfl
    | succ n => simp only [List.take_succ_cons, debounce, ih]

theorem debounceHistory_replicate_succ (P : Params wHist wTime) (h : History wHist) (n : Nat) (x : Bool) :
    debounceHistory P h (List.replicate (n + 1) x) =
      (sampleAndQuery P (debounceHistory P h (List.replicate n x)) x).1 := by
  rw [List.replicate_succ', debounceHistory_append]
  rfl

theorem getElem?_debounce_replicate (P : Params wHist wTime) (h : History wHist) {n j : Nat} (hj : j < n) (x : Bool) :
    (debounce P h (List.replicate n x))[j]? =
      some (sampleAndQuery P (debounceHistory P h (List.replicate j x)) x).2 := by
  obtain ⟨k, rfl⟩ := Nat.exists_eq_add_of_lt hj
  rw [show j + k + 1 = j + (k + 1) from rfl, List.replicate_add, debounce_append, List.getElem?_append_right (by simp)]
  simp [List.replicate_succ, debounce]

/-! ### Settled levels -/

/-- The samples `x` keep the history at `u`, and no query fires. -/
def StaysAt (P : Params wHist wTime) (u : History wHist) (x : Bool) : Prop :=
  sampleAndQuery P u x = (u, false, false)

theorem staysAt_up : StaysAt Config.params 0xFF#8 true := rfl
theorem staysAt_down : StaysAt Config.params 0x00#8 false := rfl

theorem StaysAt.debounceHistory_replicate {P : Params wHist wTime} {u : History wHist} {x : Bool} (hu : StaysAt P u x)
    (n : Nat) : debounceHistory P u (List.replicate n x) = u := by
  induction n with
  | zero => rfl
  | succ n ih => rw [debounceHistory_replicate_succ, ih, hu]

theorem StaysAt.debounce_replicate {P : Params wHist wTime} {u : History wHist} {x : Bool} (hu : StaysAt P u x)
    (n : Nat) : debounce P u (List.replicate n x) = List.replicate n (false, false) := by
  induction n with
  | zero => rfl
  | succ n ih => rw [List.replicate_succ, debounce, hu, ih, List.replicate_succ]

/-- Equal samples that settle the history after `n` updates: the events of the first `n` are all there are. -/
theorem StaysAt.debounce_replicate_eq_map {P : Params wHist wTime} {u h : History wHist} {x : Bool} {n : Nat}
    {f : Nat → Bool × Bool} (hu : StaysAt P u x) (hsettles : debounceHistory P h (List.replicate n x) = u)
    (hfirst : debounce P h (List.replicate n x) = (List.range n).map f)
    (hquiet : ∀ j, f (n + j) = (false, false)) (m : Nat) :
    debounce P h (List.replicate m x) = (List.range m).map f := by
  have hlong : debounce P h (List.replicate (n + m) x) = (List.range (n + m)).map f := by
    rw [List.replicate_add, debounce_append, hsettles, hu.debounce_replicate, hfirst, List.range_add, List.map_append]
    simp [Function.comp_def, hquiet]
  calc debounce P h (List.replicate m x)
      = (debounce P h (List.replicate (n + m) x)).take m := by rw [← debounce_take, List.take_replicate]; simp
    _ = (List.range m).map f := by rw [hlong, ← List.map_take, List.take_range]; simp

/-- A pulse of `k` samples and the level after it, each with its own part of the events. -/
theorem debounce_pulse_eq_map {P : Params wHist wTime} {h h' : History wHist} {x y : Bool} {k m : Nat}
    {f : Nat → Bool × Bool} (hend : debounceHistory P h (List.replicate k x) = h')
    (hpulse : debounce P h (List.replicate k x) = (List.range k).map f)
    (hafter : debounce P h' (List.replicate m y) = (List.range m).map fun j => f (k + j)) :
    debounce P h (List.replicate k x ++ List.replicate m y) = (List.range (k + m)).map f := by
  rw [debounce_append, hend, hpulse, hafter, List.range_add, List.map_append, List.map_map]
  rfl

/-! ### Low pulses from settled up (40_debouncer.md R108) -/

theorem debounce_low_pulse_one (m : Nat) :
    debounce Config.params 0xFF#8 (List.replicate 1 false ++ List.replicate m true) =
      (List.range (1 + m)).map fun _ => (false, false) := by
  have hhalfway : debounceHistory Config.params 0xFE#8 (List.replicate 4 true) = 0xEF#8 := by decide
  have hsettles : debounceHistory Config.params 0xFE#8 (List.replicate (4 + 4) true) = 0xFF#8 := by
    rw [List.replicate_add, debounceHistory_append, hhalfway]
    decide
  exact debounce_pulse_eq_map (h' := 0xFE#8) (by decide) (by decide)
    (staysAt_up.debounce_replicate_eq_map hsettles (by decide) (fun _ => rfl) m)

/-- The release fires on `00111111`, the sixth high sample. -/
theorem debounce_low_pulse_two (m : Nat) :
    debounce Config.params 0xFF#8 (List.replicate 2 false ++ List.replicate m true) =
      (List.range (2 + m)).map fun j => (false, j == 7) :=
  debounce_pulse_eq_map (h' := 0xFC#8) (by decide) (by decide)
    (staysAt_up.debounce_replicate_eq_map (n := 6) (by decide) (by decide)
      (fun j => by simp [show 2 + (6 + j) ≠ 7 by omega]) m)

theorem debounceHistory_long_low_pulse (k : Nat) :
    debounceHistory Config.params 0xFF#8 (List.replicate (k + 3) false) = 0x00#8 := by
  have hpress : debounceHistory Config.params 0xFF#8 (List.replicate 3 false) = 0x00#8 := by decide
  rw [Nat.add_comm, List.replicate_add, debounceHistory_append, hpress, staysAt_down.debounceHistory_replicate]

/-- The press fires on the third low sample and the release on the third high one: the press forced the history. -/
theorem debounce_long_low_pulse (m k : Nat) :
    debounce Config.params 0xFF#8 (List.replicate (k + 3) false ++ List.replicate m true) =
      (List.range (k + 3 + m)).map fun j => (j == 2, j == k + 5) := by
  have hlow : debounce Config.params 0xFF#8 (List.replicate (k + 3) false) =
      (List.range (k + 3)).map fun j => (j == 2, false) :=
    staysAt_down.debounce_replicate_eq_map (n := 3) (by decide) (by decide)
      (fun j => by simp [show 3 + j ≠ 2 by omega]) (k + 3)
  have hhigh : debounce Config.params 0x00#8 (List.replicate m true) =
      (List.range m).map fun j => (false, j == 2) :=
    staysAt_up.debounce_replicate_eq_map (n := 3) (by decide) (by decide)
      (fun j => by simp [show 3 + j ≠ 2 by omega]) m
  refine debounce_pulse_eq_map (debounceHistory_long_low_pulse k) (hlow.trans ?_) (hhigh.trans ?_)
  · refine List.map_congr_left fun j hj => ?_
    have hlt : j < k + 3 := List.mem_range.mp hj
    simp [show j ≠ k + 5 by omega]
  · refine List.map_congr_left fun j _ => ?_
    have hrelease : (k + 3 + j == k + 5) = (j == 2) := by rw [Bool.eq_iff_iff]; simp; omega
    simp [hrelease, show k + 3 + j ≠ 2 by omega]

/-- A pulse the other way gives the other events at the same updates. -/
theorem debounce_high_pulse {k m n : Nat} {f : Nat → Bool × Bool}
    (hlow : debounce Config.params 0xFF#8 (List.replicate k false ++ List.replicate m true) = (List.range n).map f) :
    debounce Config.params 0x00#8 (List.replicate k true ++ List.replicate m false) =
      (List.range n).map fun j => (f j).swap := by
  have hmirror := debounce_complement 0xFF#8 (List.replicate k false ++ List.replicate m true)
  rw [hlow, List.map_map] at hmirror
  simpa [Function.comp_def] using hmirror

/-! ### A history that only lows follow (40_debouncer.md R112) -/

theorem shiftIn_false (h : History wHist) : shiftIn h false = h <<< 1 := by simp [shiftIn]

theorem sampleAndQuery_low_press {h : History} (hp : matchesPressed Config.params (h <<< 1) = true) :
    sampleAndQuery Config.params h false = (0x00#8, true, false) := by
  rw [sampleAndQuery_eq_queried, shiftIn_false, queried_of_press hp matchesReleased_debDown_default]
  rfl

/-- A release needs a high newest sample. -/
theorem sampleAndQuery_low_quiet {h : History} (hp : matchesPressed Config.params (h <<< 1) = false) :
    sampleAndQuery Config.params h false = (h <<< 1, false, false) := by
  have hr : matchesReleased Config.params (h <<< 1) = false := by
    rw [Bool.eq_false_iff, ne_eq, matchesReleased_default_iff]
    simp
  simp [sampleAndQuery_eq_queried, shiftIn_false, queried, hp, hr]

/-- What the history is after `n` lows: shifted up, unless a press has fired, which settled it. -/
theorem debounceHistory_lows (h : History) (n : Nat) :
    (debounceHistory Config.params h (List.replicate n false) = h <<< n ∧
      ∀ i < n, matchesPressed Config.params (h <<< (i + 1)) = false) ∨
    (debounceHistory Config.params h (List.replicate n false) = 0x00#8 ∧
      ∃ i < n, matchesPressed Config.params (h <<< (i + 1)) = true) := by
  induction n with
  | zero => exact .inl ⟨by simp [debounceHistory], by simp⟩
  | succ n ih =>
    rw [debounceHistory_replicate_succ]
    rcases ih with ⟨hshifted, hnone⟩ | ⟨hsettled, i, hi, hp⟩
    · rw [hshifted]
      cases hp : matchesPressed Config.params (h <<< (n + 1)) with
      | true =>
        rw [BitVec.shiftLeft_add] at hp
        exact .inr ⟨by rw [sampleAndQuery_low_press hp], n, n.lt_succ_self, BitVec.shiftLeft_add h n 1 ▸ hp⟩
      | false =>
        refine .inl ⟨?_, fun i hi => ?_⟩
        · rw [BitVec.shiftLeft_add] at hp ⊢
          rw [sampleAndQuery_low_quiet hp]
        · rcases Nat.lt_succ_iff_lt_or_eq.mp hi with hlt | rfl
          · exact hnone i hlt
          · exact hp
    · exact .inr ⟨by rw [hsettled, staysAt_down], i, by omega, hp⟩

/-- Eight lows settle any history. -/
theorem debounceHistory_eight_lows (h : History) (m : Nat) :
    debounceHistory Config.params h (List.replicate (m + 8) false) = 0x00#8 := by
  rcases debounceHistory_lows h (m + 8) with ⟨hshifted, -⟩ | ⟨hsettled, -⟩
  · rw [hshifted, BitVec.shiftLeft_eq_zero (by omega)]
  · exact hsettled

/-- An event at a low sample is the press of the shifted history. -/
theorem matchesPressed_of_debounce_lows {h : History} {n j : Nat} {e : Bool}
    (hevent : (debounce Config.params h (List.replicate n false))[j]? = some (true, e)) :
    matchesPressed Config.params (h <<< (j + 1)) = true := by
  have hj : j < n := by simpa using (List.getElem?_eq_some_iff.mp hevent).1
  rw [getElem?_debounce_replicate _ _ hj, Option.some.injEq] at hevent
  rcases debounceHistory_lows h j with ⟨hshifted, -⟩ | ⟨hsettled, -⟩
  · cases hp : matchesPressed Config.params (h <<< j <<< 1) with
    | true => rw [BitVec.shiftLeft_add, hp]
    | false =>
      rw [hshifted, sampleAndQuery_low_quiet hp] at hevent
      cases hevent
  · rw [hsettled, staysAt_down] at hevent
    cases hevent

/-- The first low sample at which the shifted history matches gives a press. -/
theorem debounce_lows_first_press {h : History} {n j : Nat} (hj : j < n)
    (hp : matchesPressed Config.params (h <<< (j + 1)) = true)
    (hfirst : ∀ i < j, matchesPressed Config.params (h <<< (i + 1)) = false) :
    (debounce Config.params h (List.replicate n false))[j]? = some (true, false) := by
  rw [getElem?_debounce_replicate _ _ hj]
  rcases debounceHistory_lows h j with ⟨hshifted, -⟩ | ⟨-, i, hi, hpi⟩
  · rw [BitVec.shiftLeft_add] at hp
    rw [hshifted, sampleAndQuery_low_press hp]
  · rw [hfirst i hi] at hpi
    cases hpi

/-- After a high sample the third to sixth lows can match, each on two neighbouring bits of the history. -/
theorem matchesPressed_shiftLeft_iff {h : History} (hnewest : h.getLsbD 0 = true) (j : Nat) :
    matchesPressed Config.params (h <<< (j + 1)) = true ↔
      2 ≤ j ∧ j ≤ 5 ∧ h.getLsbD (6 - j) = true ∧ h.getLsbD (5 - j) = true := by
  rw [matchesPressed_default_iff]
  simp only [BitVec.getLsbD_shiftLeft]
  by_cases hwindow : 2 ≤ j ∧ j ≤ 5
  · obtain ⟨hlo, hhi⟩ := hwindow
    simp [hlo, hhi, show ¬7 < j + 1 by omega, show ¬6 < j + 1 by omega, show 2 < j + 1 by omega,
      show 1 < j + 1 by omega, show 7 - (j + 1) = 6 - j by omega, show 6 - (j + 1) = 5 - j by omega]
  · obtain rfl | rfl | hlate : j = 0 ∨ j = 1 ∨ 6 ≤ j := by omega
    · simp [hnewest]
    · simp [hnewest]
    · simp [show 6 < j + 1 by omega, show ¬j ≤ 5 by omega]

/-- Some low sample gives a press exactly when two consecutive of the five newest samples were high. -/
theorem exists_press_iff_two_highs {h : History} (hnewest : h.getLsbD 0 = true) (m : Nat) :
    (∃ j : Nat, (debounce Config.params h (List.replicate (m + 8) false))[j]? = some (true, false)) ↔
      ∃ j : Nat, j < 4 ∧ h.getLsbD j = true ∧ h.getLsbD (j + 1) = true := by
  constructor
  · rintro ⟨j, hevent⟩
    obtain ⟨hlo, hhi, hupper, hlower⟩ :=
      (matchesPressed_shiftLeft_iff hnewest j).mp (matchesPressed_of_debounce_lows hevent)
    exact ⟨5 - j, by omega, hlower, by rwa [show 5 - j + 1 = 6 - j by omega]⟩
  · rintro ⟨j, hj, hlower, hupper⟩
    have hmatch : ∃ i, matchesPressed Config.params (h <<< (i + 1)) = true := by
      refine ⟨5 - j, (matchesPressed_shiftLeft_iff hnewest _).mpr ⟨by omega, by omega, ?_, ?_⟩⟩
      · rwa [show 6 - (5 - j) = j + 1 by omega]
      · rwa [show 5 - (5 - j) = j by omega]
    have hp := Nat.find_spec hmatch
    obtain ⟨-, hhi, -⟩ := (matchesPressed_shiftLeft_iff hnewest _).mp hp
    exact ⟨Nat.find hmatch, debounce_lows_first_press (by omega) hp
      fun i hi => Bool.eq_false_iff.mpr (Nat.find_min hmatch hi)⟩

/-! ### Updates with equal samples, and the level queries -/

/-- Equal samples fill the history from the bottom (40_debouncer.md R100). -/
theorem foldl_shiftIn_replicate_getLsbD (h : History wHist) (x : Bool) (n k : Nat) :
    ((List.replicate n x).foldl shiftIn h).getLsbD k =
      (decide (k < wHist) && if k < n then x else h.getLsbD (k - n)) := by
  induction n generalizing k with
  | zero =>
    by_cases hk : k < wHist
    · simp [hk]
    · simp [hk, BitVec.getLsbD_of_ge h k (by omega)]
  | succ n ih =>
    rw [List.replicate_succ', List.foldl_append, List.foldl_cons, List.foldl_nil, shiftIn_getLsbD, ih]
    cases k with
    | zero => simp
    | succ k =>
      by_cases hk : k + 1 < wHist
      · simp [hk, show k < wHist by omega, Nat.add_sub_add_right]
      · simp [hk]

/-- As many equal samples as the history has bits settle it, at any width. -/
theorem foldl_shiftIn_replicate_width (h : History wHist) (x : Bool) :
    (List.replicate wHist x).foldl shiftIn h = if x then BitVec.allOnes wHist else 0#wHist := by
  apply BitVec.eq_of_getLsbD_eq
  intro k hk
  rw [foldl_shiftIn_replicate_getLsbD]
  cases x <;> simp [hk]

theorem execAt_debIsUp (P : Params wHist wTime) (s : State.Of wHist wTime) :
    execAt P .debIsUp s = .next { s with tick := { s.tick with result := .bit (s.history == P.debUp) } } := rfl

theorem execAt_debIsDown (P : Params wHist wTime) (s : State.Of wHist wTime) :
    execAt P .debIsDown s = .next { s with tick := { s.tick with result := .bit (s.history == P.debDown) } } := rfl

/-! ### The statements of 40_debouncer.md -/

/-- Settles O14: the patterns are the masked comparisons, and a query that is silent leaves the history. -/
theorem debEventQueriesFireAndForce : Obligations.DebEventQueriesFireAndForce := by
  intro s
  simp only [exec_eq_execAt]
  refine ⟨fun hfires => ?_, fun hsilent => ?_, fun hfires => ?_, fun hsilent => ?_⟩
  · exact execAt_debIsPressed_fires ((matchesDebPressed_iff s.history).mpr hfires)
  · exact execAt_debIsPressed_silent ((matchesDebPressed_iff s.history).not.mpr (not_exists.mpr hsilent))
  · exact execAt_debIsReleased_fires ((matchesDebReleased_iff s.history).mpr hfires)
  · exact execAt_debIsReleased_silent ((matchesDebReleased_iff s.history).not.mpr (not_exists.mpr hsilent))

/-- Settles O17: the low pulses, and each one's mirror image. -/
theorem pulseEventsByLength : Obligations.PulseEventsByLength := fun m k =>
  ⟨debounce_low_pulse_one m, debounce_high_pulse (debounce_low_pulse_one m),
    debounce_low_pulse_two m, debounce_high_pulse (debounce_low_pulse_two m),
    debounce_long_low_pulse m k, debounce_high_pulse (debounce_long_low_pulse m k)⟩

/-- Settles O18: the lows shift the history up until two high samples reach its top. -/
theorem bounceLosesThePressWithoutTwoHighs : Obligations.BounceLosesThePressWithoutTwoHighs := by
  intro h m hnewest
  refine ⟨exists_press_iff_two_highs hnewest m, fun j e hevent => ?_, debounceHistory_eight_lows h m⟩
  obtain ⟨hlo, hhi, -⟩ := (matchesPressed_shiftLeft_iff hnewest j).mp (matchesPressed_of_debounce_lows hevent)
  exact ⟨hlo, hhi⟩

/-- Settles O13: each query is one comparison and leaves its result only. -/
theorem debLevelQueriesArePure : Obligations.DebLevelQueriesArePure := fun s =>
  ⟨(exec_eq_execAt _ s).trans (execAt_debIsUp _ s), (exec_eq_execAt _ s).trans (execAt_debIsDown _ s)⟩

/-- Settles O16: the history of eight bits. -/
theorem eightEqualSamplesSettle : Obligations.EightEqualSamplesSettle :=
  foldl_shiftIn_replicate_width (wHist := 8)

end Sys2Proof.Machine

/-! SUPPORT. The level sensor: its sample and queries as equations, the one edge latch that both edge queries share, and
the statements of 41_level_sensor.md. -/

namespace Sys2Proof.Machine

open Sys2Proof

variable {wHist wTime : Nat}

/-! ### The sample and the level queries -/

theorem execAt_lsUpdate (P : Params wHist wTime) (x : Bool) (s : State.Of wHist wTime) :
    execAt P (.lsUpdate x) s = .next { s with state := x, tick := { s.tick with result := .none } } := rfl

/-- A sample sets the level and leaves the edge latch (41_level_sensor.md R120). -/
theorem execAt_lsUpdate_keeps_lastState (P : Params wHist wTime) (x : Bool) (s : State.Of wHist wTime) :
    ∃ t, execAt P (.lsUpdate x) s = .next t ∧ t.state = x ∧ t.lastState = s.lastState :=
  ⟨_, execAt_lsUpdate P x s, rfl, rfl⟩

theorem execAt_lsIsHigh (P : Params wHist wTime) (s : State.Of wHist wTime) :
    execAt P .lsIsHigh s = .next { s with tick := { s.tick with result := .bit s.state } } := rfl

theorem execAt_lsIsLow (P : Params wHist wTime) (s : State.Of wHist wTime) :
    execAt P .lsIsLow s = .next { s with tick := { s.tick with result := .bit !s.state } } := rfl

/-! ### The edge queries -/

theorem execAt_lsWentHigh (P : Params wHist wTime) (s : State.Of wHist wTime) :
    execAt P .lsWentHigh s = .next { s with
      lastState := s.state, tick := { s.tick with result := .bit (risingEdge s.state s.lastState) } } := rfl

theorem execAt_lsWentLow (P : Params wHist wTime) (s : State.Of wHist wTime) :
    execAt P .lsWentLow s = .next { s with
      lastState := s.state, tick := { s.tick with result := .bit (fallingEdge s.state s.lastState) } } := rfl

theorem risingEdge_eq_decide (x y : Bool) : risingEdge x y = decide (x = true ∧ y = false) := by
  simp [risingEdge]

theorem fallingEdge_eq_decide (x y : Bool) : fallingEdge x y = decide (x = false ∧ y = true) := by
  simp [fallingEdge]

/-- A level that equals the last one is no edge. -/
@[simp] theorem risingEdge_self (x : Bool) : risingEdge x x = false := Bool.and_not_self x
@[simp] theorem fallingEdge_self (x : Bool) : fallingEdge x x = false := Bool.not_and_self x

/-- Either edge query catches the latch up with the level, fired or not (41_level_sensor.md R123, R124). -/
theorem execAt_edgeQuery_consumes (P : Params wHist wTime) {q : Instr wTime} (hq : q ∈ [Instr.lsWentHigh, .lsWentLow])
    (s : State.Of wHist wTime) : ∃ t, execAt P q s = .next t ∧ t.lastState = t.state := by
  obtain rfl | rfl := List.mem_pair.mp hq
  · exact ⟨_, execAt_lsWentHigh P s, rfl⟩
  · exact ⟨_, execAt_lsWentLow P s, rfl⟩

/-- Where the latch has caught up, neither edge query sees an edge (41_level_sensor.md R126). -/
theorem execAt_edgeQuery_silent (P : Params wHist wTime) {q : Instr wTime} (hq : q ∈ [Instr.lsWentHigh, .lsWentLow])
    {s : State.Of wHist wTime} (hs : s.lastState = s.state) :
    ∃ t, execAt P q s = .next t ∧ t.tick.result = .bit false := by
  obtain rfl | rfl := List.mem_pair.mp hq
  · exact ⟨_, execAt_lsWentHigh P s, by simp [hs]⟩
  · exact ⟨_, execAt_lsWentLow P s, by simp [hs]⟩

/-! ### The statements of 41_level_sensor.md -/

/-- Settles O19: each operation writes the level or its result only. -/
theorem levelSensorUpdatesAndReads : Obligations.LevelSensorUpdatesAndReads := by
  intro s x
  rw [exec_eq_execAt, exec_eq_execAt, exec_eq_execAt, beq_true, beq_false]
  exact ⟨execAt_lsUpdate _ x s, execAt_lsIsHigh _ s, execAt_lsIsLow _ s⟩

/-- Settles O20: the result is the edge between the two registers, and the latch catches up. -/
theorem edgeQueriesFireAndConsume : Obligations.EdgeQueriesFireAndConsume := by
  intro s
  rw [exec_eq_execAt, exec_eq_execAt, ← risingEdge_eq_decide, ← fallingEdge_eq_decide]
  exact ⟨execAt_lsWentHigh _ s, execAt_lsWentLow _ s⟩

/-- Settles O21: a query makes the latch equal the level, and an edge with its opposite brings back that level. -/
theorem edgeLatchIsShared : Obligations.EdgeLatchIsShared := by
  intro s q r hq hr
  simp only [exec_eq_execAt]
  obtain ⟨t, hqt, hlatch⟩ := execAt_edgeQuery_consumes Config.params hq s
  refine ⟨?_, ?_⟩
  · obtain ⟨u, hru, hresult⟩ := execAt_edgeQuery_silent Config.params hr hlatch
    exact ⟨t, u, hqt, hru, hresult⟩
  · obtain ⟨u, htu, -, hu⟩ := execAt_lsUpdate_keeps_lastState Config.params (!t.state) t
    obtain ⟨v, huv, hlevel, hv⟩ := execAt_lsUpdate_keeps_lastState Config.params t.state u
    have hcancel : v.lastState = v.state := by rw [hv, hu, hlatch, hlevel]
    obtain ⟨w, hvw, hresult⟩ := execAt_edgeQuery_silent Config.params hr hcancel
    exact ⟨t, u, v, w, hqt, htu, huv, hvw, hresult⟩

end Sys2Proof.Machine

/-! SUPPORT. The timer unit and the button events: time as differences, BTN.EVENTS at a press, the soaking-up of a long
press over ticks, the machine with its Clock shifted, and the statements of 42_timer_button.md. -/

namespace Sys2Proof.Machine

open Sys2Proof

variable {wHist wTime : Nat}

/-! ### Time differences -/

/-- The difference of two readings `d` apart, over a wrap too (42_timer_button.md R141). -/
theorem timeSince_ofNat_add (a d : Nat) :
    timeSince (BitVec.ofNat wTime (a + d)) (BitVec.ofNat wTime a) = BitVec.ofNat wTime d := by
  rw [timeSince, BitVec.ofNat_add, add_sub_cancel_left]

theorem timedOut_ofNat_iff {d T : Nat} (hd : d < 2 ^ wTime) (hT : T < 2 ^ wTime) :
    timedOut (BitVec.ofNat wTime d) (BitVec.ofNat wTime T) = true ↔ T < d := by
  rw [timedOut_iff, BitVec.toNat_ofNat, BitVec.toNat_ofNat, Nat.mod_eq_of_lt hd, Nat.mod_eq_of_lt hT]

theorem execAt_tmrRecord (P : Params wHist wTime) (now : Time wTime) (s : State.Of wHist wTime) :
    execAt P (.tmrRecord now) s =
      .next { s with phaseTimer := now, tick := { s.tick with result := .none } } := rfl

theorem execAt_tmrElapsed (P : Params wHist wTime) (now : Time wTime) (s : State.Of wHist wTime) :
    execAt P (.tmrElapsed now) s =
      .next { s with tick := { s.tick with result := .time (now - s.phaseTimer) } } := rfl

theorem execAt_tmrHeld (P : Params wHist wTime) (now : Time wTime) (s : State.Of wHist wTime) :
    execAt P (.tmrHeld now) s =
      .next { s with tick := { s.tick with result := .time (now - s.timePressed) } } := rfl

/-! ### BTN.EVENTS at a press -/

/-- A hold that has just begun is not long, where a long hold takes time (42_timer_button.md R147 b). -/
theorem longHold_zero {P : Params wHist wTime} (h : 0 < P.tLongPress.toNat) : longHold P 0 = false := by
  rw [← Bool.not_eq_true, longHold_iff]
  exact Nat.not_le.mpr h

/-- BTN.EVENTS at a press stamps it and raises no pulse (42_timer_button.md R143, R147 b), where the settled-down
history is no release and a long hold takes time. -/
theorem execAt_btnEvents_press {P : Params wHist wTime} {s : State.Of wHist wTime} (now : Time wTime)
    (hp : s.history &&& P.debMask = P.debPressed) (hdown : matchesReleased P P.debDown = false)
    (hhold : 0 < P.tLongPress.toNat) :
    execAt P (.btnEvents now) s = .next { s with
      history := P.debDown
      timePressed := now
      tick := { s.tick with
        pressed := true, released := false, shortPress := false, longPress := false,
        result := .events false false } } := by
  have hq := queried_of_press ((matchesPressed_iff P s.history).mpr hp) hdown
  have hshort : longHold P (now - now) = false := by rw [sub_self]; exact longHold_zero hhold
  simp only [execAt, execBtnEvents, buttonEvents_eq, hq, withResult_eq, if_true, hshort, Bool.not_false, Bool.true_and,
    Bool.false_and, Bool.and_false]

/-! ### The soaking-up of a long press -/

/-- The override sets `button_ignored`, and only a release clears it (10_state.md R29). -/
theorem tick_buttonIgnored (P : Params wHist wTime) (inp : TickInputs wTime) (s : State.Of wHist wTime) :
    (tick P inp s).buttonIgnored =
      ((tick P inp s).tick.longPress || !(tick P inp s).tick.released && s.buttonIgnored) := by
  obtain ⟨-, hr, -, hlp⟩ := tick_events P inp s
  obtain ⟨-, -, -, hign, -⟩ := evaluateChain_frame P 3 (beforePhases P inp s)
  rw [hr, hlp]
  refine hign.trans ?_
  rw [beforePhases_eq]

/-- A press that is soaked up and not released in a tick raises no `long_press` and stays soaked up (42_timer_button.md
R146). -/
theorem tick_of_soaked_up {P : Params wHist wTime} {inp : TickInputs wTime} {s : State.Of wHist wTime}
    (hign : s.buttonIgnored = true) (hheld : (tick P inp s).tick.released = false) :
    (tick P inp s).tick.longPress = false ∧ (tick P inp s).buttonIgnored = true := by
  have hlong : (tick P inp s).tick.longPress = false := by
    obtain ⟨-, hr, -, hlp⟩ := tick_events P inp s
    rw [hr] at hheld
    rw [hlp]
    simp only [beforePhases_eq] at hheld ⊢
    simp [hheld, hign]
  exact ⟨hlong, by rw [tick_buttonIgnored, hlong, hheld, hign]; rfl⟩

/-! ### The Clock shifted: each part of a tick commutes with the shift (70_reset_and_hazards.md R254 c) -/

@[simp] theorem shiftInputs_now (d : Time wTime) (inp : TickInputs wTime) : (shiftInputs d inp).now = inp.now + d := rfl

@[simp] theorem shiftTime_longPress (d : Time wTime) (s : State.Of wHist wTime) :
    (shiftTime d s).tick.longPress = s.tick.longPress := rfl

theorem timeSince_add_add (now t d : Time wTime) : timeSince (now + d) (t + d) = timeSince now t :=
  add_sub_add_right_eq_sub now t d

theorem held_shiftTime (d now : Time wTime) (s : State.Of wHist wTime) :
    held (now + d) (shiftTime d s) = held now s := timeSince_add_add now s.timePressed d

theorem waitOver_shiftTime (d threshold : Time wTime) (s : State.Of wHist wTime) :
    waitOver threshold (shiftTime d s) = waitOver threshold s :=
  congrArg (timedOut · threshold) (timeSince_add_add (tickNow s) s.phaseTimer d)

theorem latchInputs_shiftTime (P : Params wHist wTime) (d : Time wTime) (inp : TickInputs wTime)
    (s : State.Of wHist wTime) :
    latchInputs P (shiftInputs d inp) (shiftTime d s) = shiftTime d (latchInputs P inp s) := rfl

theorem sampleSensors_shiftTime (d : Time wTime) (s : State.Of wHist wTime) :
    sampleSensors (shiftTime d s) = shiftTime d (sampleSensors s) := by
  rw [sampleSensors_eq, sampleSensors_eq]
  rfl

/-- A press is stamped with the shifted time. -/
theorem senseButton_shiftTime (P : Params wHist wTime) (d now : Time wTime) (s : State.Of wHist wTime) :
    senseButton P (now + d) (shiftTime d s) = shiftTime d (senseButton P now s) :=
  calc senseButton P (now + d) (shiftTime d s)
      = (shiftTime d (senseButton P now s)).setTimePressed
          (if (queried P s.history).2.1 then now + d else s.timePressed + d) := by
        rw [senseButton_eq, senseButton_eq]; rfl
    _ = (shiftTime d (senseButton P now s)).setTimePressed
          ((if (queried P s.history).2.1 then now else s.timePressed) + d) := by rw [ite_add]
    _ = shiftTime d (senseButton P now s) := by rw [senseButton_eq]; rfl

/-- Both pulses judge the hold, which is a difference. -/
theorem raisePresses_shiftTime (P : Params wHist wTime) (d now : Time wTime) (s : State.Of wHist wTime) :
    raisePresses P (now + d) (shiftTime d s) = shiftTime d (raisePresses P now s) := by
  have hheld : now + d - (shiftTime d s).timePressed = now - s.timePressed := held_shiftTime d now s
  rw [raisePresses_eq, raisePresses_eq, hheld]
  rfl

theorem buttonEvents_shiftTime (P : Params wHist wTime) (d now : Time wTime) (s : State.Of wHist wTime) :
    buttonEvents P (now + d) (shiftTime d s) = shiftTime d (buttonEvents P now s) := by
  rw [buttonEvents, senseButton_shiftTime, raisePresses_shiftTime, buttonEvents]

theorem override_shiftTime (lp : Bool) (d : Time wTime) (s : State.Of wHist wTime) :
    override lp (shiftTime d s) = shiftTime d (override lp s) := by
  rw [override_eq, override_eq]
  rfl

theorem beforePhases_shiftTime (P : Params wHist wTime) (d : Time wTime) (inp : TickInputs wTime)
    (s : State.Of wHist wTime) :
    beforePhases P (shiftInputs d inp) (shiftTime d s) = shiftTime d (beforePhases P inp s) := by
  simp only [beforePhases, latchInputs_shiftTime, sampleSensors_shiftTime, shiftInputs_now, buttonEvents_shiftTime,
    shiftTime_longPress, override_shiftTime]

theorem phaseAfter_shiftTime (P : Params wHist wTime) (d : Time wTime) (s : State.Of wHist wTime) :
    phaseAfter P (shiftTime d s) = phaseAfter P s := by
  simp only [phaseAfter, waitOver_shiftTime]
  rfl

/-- A rule that records the timer records the shifted time, and its wait is a difference. -/
theorem evaluatePhase_shiftTime (P : Params wHist wTime) (d : Time wTime) (s : State.Of wHist wTime) :
    evaluatePhase P (shiftTime d s) = shiftTime d (evaluatePhase P s) :=
  calc evaluatePhase P (shiftTime d s)
      = (shiftTime d (evaluatePhase P s)).setPhaseTimer
          (if recordsTimer s.phase then s.tick.inputs.now + d else s.phaseTimer + d) := by
        rw [evaluatePhase_eq, evaluatePhase_eq, phaseAfter_shiftTime]; rfl
    _ = (shiftTime d (evaluatePhase P s)).setPhaseTimer
          ((if recordsTimer s.phase then s.tick.inputs.now else s.phaseTimer) + d) := by rw [ite_add]
    _ = shiftTime d (evaluatePhase P s) := by rw [evaluatePhase_eq]; rfl

theorem evaluateChain_shiftTime (P : Params wHist wTime) (n : Nat) (d : Time wTime) (s : State.Of wHist wTime) :
    evaluateChain P n (shiftTime d s) = shiftTime d (evaluateChain P n s) :=
  evaluateChain_related P (R := fun s t => t = shiftTime d s) (by rintro s _ rfl; rfl)
    (by rintro s _ rfl; exact evaluatePhase_shiftTime P d s) n rfl

theorem tick_shiftTime (P : Params wHist wTime) (d : Time wTime) (inp : TickInputs wTime) (s : State.Of wHist wTime) :
    tick P (shiftInputs d inp) (shiftTime d s) = shiftTime d (tick P inp s) := by
  rw [tick_eq, tick_eq, beforePhases_shiftTime, evaluateChain_shiftTime]
  rfl

/-! ### The statements of 42_timer_button.md -/

/-- Settles O23: readings `d` apart differ by the word of `d`, which is `d` below the range. -/
theorem timeSubtractionIsExact : Obligations.TimeSubtractionIsExact := by
  intro wTime a d T hd hT
  rw [timeSince_ofNat_add]
  exact ⟨(BitVec.toNat_ofNat d wTime).trans (Nat.mod_eq_of_lt hd), timedOut_ofNat_iff hd hT⟩

/-- Settles O24: the three histories at any parameters, where at the defaults up is not down. -/
theorem buttonEventsByHistory : Obligations.ButtonEventsByHistory := by
  intro s now
  rw [exec_eq_execAt]
  refine ⟨fun hp => ?_, fun hr => ?_, fun hp hr => ?_⟩
  · exact execAt_btnEvents_press now hp matchesReleased_debDown_default (by decide)
  · have hp : s.history &&& 0xC7#8 ≠ 0xC0#8 := by rw [hr]; decide
    exact execAt_btnEvents_release now hp hr
  · exact execAt_btnEvents_no_event now hp hr

/-- Settles O26, by induction on the ticks: each without a release keeps the press soaked up. -/
theorem longPressOncePerHold : Obligations.LongPressOncePerHold := by
  intro wHist wTime P inps
  induction inps with
  | nil => simp [tickTrace]
  | cons inp rest ih =>
    intro s hign hheld
    rw [tickTrace, List.forall_mem_cons] at hheld ⊢
    obtain ⟨hnow, hlater⟩ := hheld
    have htick := tick_of_soaked_up hign hnow
    exact ⟨htick, ih _ htick.2 hlater⟩

/-- Settles O56, by induction on the ticks: each commutes with the shift. -/
theorem onlyTimeDifferencesMatter : Obligations.OnlyTimeDifferencesMatter := by
  intro wHist wTime P d inps
  induction inps with
  | nil => exact fun _ => rfl
  | cons inp rest ih =>
    intro s
    rw [List.map_cons, runTicks, runTicks, tick_shiftTime, ih]

/-- Settles O22: one write, or a result only. -/
theorem timerOperations : Obligations.TimerOperations := by
  intro s now
  rw [exec_eq_execAt, exec_eq_execAt, exec_eq_execAt]
  exact ⟨execAt_tmrRecord _ now s, execAt_tmrElapsed _ now s, execAt_tmrHeld _ now s⟩

end Sys2Proof.Machine

/-! SUPPORT. The sequencer: the phase rules as instructions, the phase that a tick dispatches and where it ends, a tick
as its operations one by one, what `HALT_ENABLE` can reach, the wake events of a halt, and the statements of
43_sequencer.md. -/

namespace Sys2Proof.Machine

open Sys2Proof

variable {wHist wTime : Nat}

/-! ### The phase rules as instructions -/

/-- The choice that the six waiting rules share, two exits in order or the phase stays, writes `phase` and nothing else
(43_sequencer.md R180). -/
theorem ite_setPhase (a b : Prop) [Decidable a] [Decidable b] (p q : Phase) (t : State.Of wHist wTime) :
    (if a then t.setPhase p else if b then t.setPhase q else t) =
      t.setPhase (if a then p else if b then q else t.phase) := by
  split
  · rfl
  · split <;> rfl

/-! Beside its choice of a phase, a waiting rule notes its evaluation, ends the tick, and consumes the edge if it
queries one (43_sequencer.md R163, R164). -/

theorem rulePowerwait1_eq (P : Params wHist wTime) (s : State.Of wHist wTime) :
    rulePowerwait1 P s = { s with
      lastState := s.state
      phase := (rulePowerwait1 P s).phase
      select := .script
      tick := { s.tick with evaluated := s.tick.evaluated ++ [.powerwait1], result := .none } } := by
  simp only [rulePowerwait1, ite_setPhase]
  rfl

theorem ruleBootwait1_eq (P : Params wHist wTime) (s : State.Of wHist wTime) :
    ruleBootwait1 P s = { s with
      phase := (ruleBootwait1 P s).phase
      select := .script
      tick := { s.tick with evaluated := s.tick.evaluated ++ [.bootwait1], result := .none } } := by
  simp only [ruleBootwait1, ite_setPhase]
  rfl

theorem ruleShutdown1_eq (P : Params wHist wTime) (s : State.Of wHist wTime) :
    ruleShutdown1 P s = { s with
      phase := (ruleShutdown1 P s).phase
      select := .script
      tick := { s.tick with evaluated := s.tick.evaluated ++ [.shutdown1], result := .none } } := by
  simp only [ruleShutdown1, ite_setPhase]
  rfl

theorem rulePoweroff1_eq (P : Params wHist wTime) (s : State.Of wHist wTime) :
    rulePoweroff1 P s = { s with
      phase := (rulePoweroff1 P s).phase
      select := .script
      tick := { s.tick with evaluated := s.tick.evaluated ++ [.poweroff1], result := .none } } := by
  simp only [rulePoweroff1, ite_setPhase]
  rfl

theorem ruleIdle2_eq (P : Params wHist wTime) (s : State.Of wHist wTime) :
    ruleIdle2 P s = { s with
      lastState := s.state
      phase := (ruleIdle2 P s).phase
      select := .script
      tick := { s.tick with evaluated := s.tick.evaluated ++ [.idle2], result := .none } } := by
  simp only [ruleIdle2, ite_setPhase]
  rfl

/-- PH.BOOT (43_sequencer.md R171). -/
theorem execAt_phBoot (P : Params wHist wTime) (s : State.Of wHist wTime) :
    execAt P .phBoot s = .next { s with
      lastState := s.state
      phase :=
        if s.tick.shortPress = true ∨ (s.state = false ∧ s.lastState = true) then .shutdown0
        else if s.tick.bootAsserted = false then .poweroff0
        else s.phase
      select := .script
      tick := { s.tick with evaluated := s.tick.evaluated ++ [.boot], result := .none } } := by
  simp only [execAt, execPhBoot, ruleBoot, ite_setPhase, Bool.or_eq_true, wentLow_iff, Bool.not_eq_true']
  rfl

/-- The thresholds of 30_encoding.md R76 as numbers. -/
theorem ofNat_lt_iff {n : Nat} (t : Time) (hn : n < 2 ^ 32) : BitVec.ofNat 32 n < t ↔ n < t.toNat := by
  rw [BitVec.lt_def, BitVec.toNat_ofNat, Nat.mod_eq_of_lt hn]

/-- PH.IDLE0 with `HALT_ENABLE` false leaves the halt request (43_sequencer.md R177). -/
theorem ruleIdle0_of_not_haltEnable {P : Params wHist wTime} (h : P.haltEnable = false) (s : State.Of wHist wTime) :
    ruleIdle0 P s = { s with
      phase := .idle1
      select := .phaseRegister
      tick := { s.tick with evaluated := s.tick.evaluated ++ [.idle0], result := .none } } := by
  rw [ruleIdle0, requestHalt_eq, h]
  rfl

theorem execAt_seqOverride (P : Params wHist wTime) (lp : Bool) (s : State.Of wHist wTime) :
    execAt P (.seqOverride lp) s = .next { s with
      phase := if lp then .poweroff2 else s.phase
      buttonIgnored := lp || s.buttonIgnored
      tick := { s.tick with result := .none } } := by
  rw [execAt, execSeqOverride, override_eq, withResult_eq]

/-! ### What a phase rule leaves, further fields -/

@[simp] theorem evaluatePhase_lastState (P : Params wHist wTime) (s : State.Of wHist wTime) :
    (evaluatePhase P s).lastState = if queriesEdge s.phase then s.state else s.lastState := by rw [evaluatePhase_eq]

@[simp] theorem evaluatePhase_phaseTimer (P : Params wHist wTime) (s : State.Of wHist wTime) :
    (evaluatePhase P s).phaseTimer = if recordsTimer s.phase then s.tick.inputs.now else s.phaseTimer := by
  rw [evaluatePhase_eq]

@[simp] theorem evaluatePhase_state (P : Params wHist wTime) (s : State.Of wHist wTime) :
    (evaluatePhase P s).state = s.state := by rw [evaluatePhase_eq]

@[simp] theorem evaluatePhase_inputs (P : Params wHist wTime) (s : State.Of wHist wTime) :
    (evaluatePhase P s).tick.inputs = s.tick.inputs := by rw [evaluatePhase_eq]

/-! ### The phase that a tick dispatches -/

/-- A tick with `long_press` dispatches POWEROFF2 (43_sequencer.md R161). -/
theorem beforePhases_phase_of_longPress {P : Params wHist wTime} {inp : TickInputs wTime} {s : State.Of wHist wTime}
    (h : (tick P inp s).tick.longPress = true) : (beforePhases P inp s).phase = .poweroff2 := by
  obtain ⟨-, -, -, hlp⟩ := tick_events P inp s
  rcases beforePhases_phase P inp s with ⟨-, hno⟩ | ⟨hover, -⟩
  · exact absurd (hno.symm.trans (hlp.symm.trans h)) Bool.false_ne_true
  · exact hover

/-- A tick without it dispatches the phase it starts in (43_sequencer.md R162). -/
theorem beforePhases_phase_of_no_longPress {P : Params wHist wTime} {inp : TickInputs wTime}
    {s : State.Of wHist wTime} (h : (tick P inp s).tick.longPress = false) :
    (beforePhases P inp s).phase = s.phase := by
  obtain ⟨-, -, -, hlp⟩ := tick_events P inp s
  rcases beforePhases_phase P inp s with ⟨hsame, -⟩ | ⟨-, hover⟩
  · exact hsame
  · exact absurd (h.symm.trans (hlp.trans hover)) Bool.false_ne_true

theorem beforePhases_state (P : Params wHist wTime) (inp : TickInputs wTime) (s : State.Of wHist wTime) :
    (beforePhases P inp s).state = if inp.sampleStb then inp.pinUsb else s.state := by rw [beforePhases_eq]

theorem tick_state (P : Params wHist wTime) (inp : TickInputs wTime) (s : State.Of wHist wTime) :
    (tick P inp s).state = (beforePhases P inp s).state := by
  obtain ⟨-, hstate, -⟩ := evaluateChain_frame P 3 (beforePhases P inp s)
  exact hstate

theorem evaluateChain_of_not_chains {P : Params wHist wTime} {n : Nat} {s : State.Of wHist wTime}
    (h : chains s.phase = false) : evaluateChain P (n + 1) s = evaluatePhase P s := by
  rw [evaluateChain_succ, h, if_neg Bool.false_ne_true]

theorem evaluateChain_of_chains {P : Params wHist wTime} {n : Nat} {s : State.Of wHist wTime}
    (h : chains s.phase = true) : evaluateChain P (n + 1) s = evaluateChain P n (evaluatePhase P s) := by
  rw [evaluateChain_succ, h, if_pos rfl]

/-! ### Ticks from POWEROFF2, from IDLE0 and from IDLE2 -/

/-- Where the dispatched rule does not chain, the tick ends with it (43_sequencer.md R163). -/
theorem tick_of_not_chains {P : Params wHist wTime} {inp : TickInputs wTime} {s : State.Of wHist wTime}
    (h : chains (beforePhases P inp s).phase = false) :
    ∃ r, tick P inp s = withResult r (evaluatePhase P (beforePhases P inp s)) :=
  ⟨_, by rw [tick_eq, evaluateChain_of_not_chains h, withResult_eq]⟩

/-- A tick that dispatches POWEROFF2, by its phase or by the override, de-energises (43_sequencer.md R176). -/
theorem tick_of_dispatched_poweroff2 {P : Params wHist wTime} {inp : TickInputs wTime} {s : State.Of wHist wTime}
    (h : (beforePhases P inp s).phase = .poweroff2) :
    (tick P inp s).phase = .idle0 ∧ (tick P inp s).en = false ∧ (tick P inp s).shutdown = false ∧
    (tick P inp s).phaseTimer = s.phaseTimer ∧ (tick P inp s).lastState = s.lastState := by
  obtain ⟨hlast, htimer, -⟩ := beforePhases_frame P inp s
  obtain ⟨r, htick⟩ := tick_of_not_chains (h ▸ rfl : chains (beforePhases P inp s).phase = false)
  rw [htick, ← hlast, ← htimer]
  simp [withResult_eq, h, phaseAfter, enAfter, shutdownAfter, recordsTimer, queriesEdge]

/-- The transitions of IDLE2 as propositions (43_sequencer.md R179). -/
theorem phaseAfter_of_idle2 (P : Params wHist wTime) {s : State.Of wHist wTime} (h : s.phase = .idle2) :
    phaseAfter P s =
      if P.tIdle < s.tick.inputs.now - s.phaseTimer then .idle0
      else if (s.tick.shortPress = true ∧ s.state = true) ∨ (s.state = true ∧ s.lastState = false) then .poweron
      else .idle2 := by
  have hrule : evaluatePhase P s = ruleIdle2 P s := by rw [evaluatePhase, h]
  rw [← evaluatePhase_phase, hrule, ruleIdle2_phase, h]

/-- IDLE2 in the tick that recorded its timer cannot be over: it stays, or goes on to POWERON with the level sensor
high. -/
theorem phaseAfter_of_fresh_idle2 (P : Params wHist wTime) {s : State.Of wHist wTime} (h : s.phase = .idle2)
    (hfresh : s.phaseTimer = s.tick.inputs.now) :
    phaseAfter P s = .idle2 ∨ phaseAfter P s = .poweron ∧ s.state = true := by
  have hwaits : ¬P.tIdle < s.tick.inputs.now - s.phaseTimer := by
    rw [hfresh, sub_self]
    exact BitVec.not_lt_zero
  rw [phaseAfter_of_idle2 P h, if_neg hwaits]
  split
  · rename_i hwake
    exact .inr ⟨rfl, hwake.elim And.right And.left⟩
  · exact .inl rfl

/-- A tick from IDLE0 runs through IDLE1, which records the timer, to IDLE2 (43_sequencer.md R177 to R179). -/
theorem tick_of_dispatched_idle0 {P : Params wHist wTime} {inp : TickInputs wTime} {s : State.Of wHist wTime}
    (h : (beforePhases P inp s).phase = .idle0) :
    (tick P inp s).phase = .idle2 ∨ (tick P inp s).phase = .poweron ∧ (tick P inp s).state = true := by
  have hphase : (tick P inp s).phase = phaseAfter P (evaluatePhase P (evaluatePhase P (beforePhases P inp s))) := by
    rw [← evaluatePhase_phase, tick_eq, evaluateChain_three, h]
  have hlast := phaseAfter_of_fresh_idle2 P (s := evaluatePhase P (evaluatePhase P (beforePhases P inp s)))
    (by simp [h, phaseAfter]) (by simp [h, phaseAfter, recordsTimer])
  rwa [← hphase, evaluatePhase_state, evaluatePhase_state, ← tick_state] at hlast

/-- A tick from IDLE2: the timeout, then a wake reason; the latches stay (43_sequencer.md R179). -/
theorem tick_of_idle2 {P : Params wHist wTime} {inp : TickInputs wTime} {s : State.Of wHist wTime}
    (h : s.phase = .idle2) (hlong : (tick P inp s).tick.longPress = false) :
    (tick P inp s).phase = (
      if P.tIdle < inp.now - s.phaseTimer then .idle0
      else if ((tick P inp s).tick.shortPress = true ∧ (tick P inp s).state = true) ∨
        ((tick P inp s).state = true ∧ s.lastState = false) then .poweron
      else .idle2) ∧
    (tick P inp s).en = s.en ∧ (tick P inp s).shutdown = s.shutdown := by
  have hdispatch := (beforePhases_phase_of_no_longPress hlong).trans h
  obtain ⟨hlast, htimer, -, -, -, hinputs, -⟩ := beforePhases_frame P inp s
  obtain ⟨-, -, hshort, -⟩ := tick_events P inp s
  obtain ⟨r, htick⟩ := tick_of_not_chains (hdispatch ▸ rfl : chains (beforePhases P inp s).phase = false)
  refine ⟨?_, ?_, ?_⟩
  · calc (tick P inp s).phase
        = phaseAfter P (beforePhases P inp s) := by rw [htick]; exact evaluatePhase_phase P _
      _ = _ := by rw [phaseAfter_of_idle2 P hdispatch, hinputs, htimer, hlast, hshort, tick_state]
  · rw [tick_en, hdispatch]
    rfl
  · rw [tick_shutdown, hdispatch]
    rfl

/-! ### The rules of a tick, one instruction at a time -/

/-- A chain that is not left open is a run of phase rules, each selected by the phase register (43_sequencer.md R162,
R163). The chain evaluates a rule, or stands where one has chained. -/
theorem phaseRun_evaluateChain {n : Nat} {s : State} (hopen : n = 0 → s.select = .phaseRegister)
    (hend : (evaluateChain Config.params n s).select = .script) : PhaseRun s (evaluateChain Config.params n s) := by
  induction n generalizing s with
  | zero =>
    have hselect : s.select = .script := hend
    cases (hopen rfl).symm.trans hselect
  | succ n ih =>
    cases hchain : chains s.phase with
    | false =>
      rw [evaluateChain_of_not_chains hchain] at hend ⊢
      exact .last (exec_phase_instr s) hend
    | true =>
      have hselect : (evaluatePhase Config.params s).select = .phaseRegister := by
        rw [evaluatePhase_select, hchain, if_pos rfl]
      rw [evaluateChain_of_chains hchain] at hend ⊢
      exact .more (exec_phase_instr s) hselect (ih (fun _ => hselect) hend)

/-! ### The operations of a tick, one instruction at a time -/

theorem exec_ioReadBoot (s : State) :
    exec .ioReadBoot s =
      .next (withResult (.bit (readBoot Config.params s).tick.bootAsserted) (readBoot Config.params s)) := rfl

theorem sampleSensors_of_no_strobe {s : State.Of wHist wTime} (hstb : s.tick.inputs.sampleStb = false) :
    sampleSensors s = s := by
  rw [sampleSensors, hstb, if_neg Bool.false_ne_true]

/-- BTN.EVENTS and SEQ.OVERRIDE do not read the result of the operation before. -/
theorem buttonEvents_withResult (P : Params wHist wTime) (now : Time wTime) (r : Result wTime)
    (s : State.Of wHist wTime) : buttonEvents P now (withResult r s) = withResult r (buttonEvents P now s) := by
  rw [buttonEvents_eq, buttonEvents_eq]
  rfl

theorem override_withResult (lp : Bool) (r : Result wTime) (s : State.Of wHist wTime) :
    override lp (withResult r s) = withResult r (override lp s) := by
  rw [override_eq, override_eq]
  rfl

theorem withResult_withResult (r q : Result wTime) (s : State.Of wHist wTime) :
    withResult r (withResult q s) = withResult r s := rfl

theorem withResult_beforePhases (P : Params wHist wTime) (inp : TickInputs wTime) (s : State.Of wHist wTime) :
    withResult .none (beforePhases P inp s) = beforePhases P inp s := by
  rw [beforePhases_eq]
  rfl

theorem exec_btnEvents_withResult (now : Time) (r : Result 32) (s : State) :
    ∃ q, exec (.btnEvents now) (withResult r s) = .next (withResult q (buttonEvents Config.params now s)) :=
  ⟨_, by
    rw [exec_eq_execAt, execAt, execBtnEvents, buttonEvents_withResult, withResult_withResult]⟩

theorem exec_seqOverride_withResult (lp : Bool) (r : Result 32) (s : State) :
    exec (.seqOverride lp) (withResult r s) = .next (withResult .none (override lp s)) := by
  rw [exec_eq_execAt, execAt, execSeqOverride, override_withResult, withResult_withResult]

/-- Step 3 of a tick, issued as operations or left out (43_sequencer.md R160). -/
theorem exec_sampleSensors (r : Result 32) (s : State) :
    ∃ (t : State) (q : Result 32),
      (s.tick.inputs.sampleStb = true →
        exec (.lsUpdate s.tick.inputs.pinUsb) (withResult r s) = .next t ∧
        exec (.debUpdate s.tick.inputs.pinPower) t = .next (withResult q (sampleSensors s))) ∧
      (s.tick.inputs.sampleStb = false → withResult q (sampleSensors s) = withResult r s) := by
  cases hstb : s.tick.inputs.sampleStb with
  | true =>
    refine ⟨_, .none, fun _ => ⟨rfl, ?_⟩, nofun⟩
    rw [sampleSensors_eq, hstb]
    rfl
  | false => exact ⟨s, r, nofun, fun _ => by rw [sampleSensors_of_no_strobe hstb]⟩

/-! ### What `HALT_ENABLE` can reach -/

/-- The second state is the first with another halt request and result: no register and no value that a rule reads. -/
def SameButHaltReq (s t : State.Of wHist wTime) : Prop :=
  ∃ halt r, t = s.setTick { s.tick with haltReq := halt, result := r }

theorem SameButHaltReq.refl (s : State.Of wHist wTime) : SameButHaltReq s s := ⟨_, _, rfl⟩

theorem SameButHaltReq.sameRegisters {s t : State.Of wHist wTime} (h : SameButHaltReq s t) : SameRegisters t s := by
  obtain ⟨halt, r, rfl⟩ := h
  exact ⟨rfl, rfl, rfl, rfl, rfl, rfl, rfl, rfl, rfl⟩

theorem SameButHaltReq.phase_eq {s t : State.Of wHist wTime} (h : SameButHaltReq s t) : t.phase = s.phase :=
  h.sameRegisters.phase

/-- A tick computes its request and result anew, so its first half does not depend on the old ones. -/
theorem SameButHaltReq.beforePhases (P : Params wHist wTime) (b : Bool) (inp : TickInputs wTime)
    {s t : State.Of wHist wTime} (h : SameButHaltReq s t) :
    beforePhases { P with haltEnable := b } inp t = beforePhases P inp s := by
  obtain ⟨halt, r, rfl⟩ := h
  rw [beforePhases_eq, beforePhases_eq]
  rfl

theorem SameButHaltReq.evaluatePhase (P : Params wHist wTime) (b : Bool) {s t : State.Of wHist wTime}
    (h : SameButHaltReq s t) :
    SameButHaltReq (evaluatePhase P s) (evaluatePhase { P with haltEnable := b } t) := by
  obtain ⟨halt, r, rfl⟩ := h
  refine ⟨haltAfter { P with haltEnable := b } halt s.phase, .none, ?_⟩
  rw [evaluatePhase_eq, evaluatePhase_eq]
  rfl

theorem SameButHaltReq.evaluateChain (P : Params wHist wTime) (b : Bool) (n : Nat) {s t : State.Of wHist wTime}
    (h : SameButHaltReq s t) :
    SameButHaltReq (evaluateChain P n s) (evaluateChain { P with haltEnable := b } n t) := by
  induction n generalizing s t with
  | zero => exact h
  | succ n ih =>
    rw [evaluateChain_succ, evaluateChain_succ, h.phase_eq]
    split
    · exact ih (h.evaluatePhase P b)
    · exact h.evaluatePhase P b

theorem SameButHaltReq.tick (P : Params wHist wTime) (b : Bool) (inp : TickInputs wTime) {s t : State.Of wHist wTime}
    (h : SameButHaltReq s t) : SameButHaltReq (tick P inp s) (tick { P with haltEnable := b } inp t) := by
  obtain ⟨halt, r, ht⟩ := SameButHaltReq.evaluateChain P b 3 (.refl (Machine.beforePhases P inp s))
  refine ⟨halt, (Machine.tick { P with haltEnable := b } inp t).tick.result, ?_⟩
  rw [tick_eq, tick_eq, h.beforePhases, ht]
  rfl

theorem SameButHaltReq.runTicks (P : Params wHist wTime) (b : Bool) (inps : List (TickInputs wTime))
    {s t : State.Of wHist wTime} (h : SameButHaltReq s t) :
    SameButHaltReq (runTicks P inps s) (runTicks { P with haltEnable := b } inps t) := by
  induction inps generalizing s t with
  | nil => exact h
  | cons inp rest ih => exact ih (h.tick P b inp)

/-! ### The wake events of a halt -/

/-- An edge stands between two changes, one right after the other, that differ in a monitored pin: also where a later
change brings the level back (44_gpio.md R212). -/
theorem mem_edgeTimes_iff (P : Params wHist wTime) (c₀ : PinChange) (cs : List PinChange) (t : Nat) :
    t ∈ edgeTimes P c₀.levels cs ↔
      ∃ pre post c d, c₀ :: cs = pre ++ c :: d :: post ∧ wakeEdge P c.levels d.levels = true ∧ d.time = t := by
  induction cs generalizing c₀ with
  | nil =>
    simp only [edgeTimes, List.not_mem_nil, false_iff]
    rintro ⟨pre, post, c, d, hlist, -⟩
    have hlength := congrArg List.length hlist
    simp at hlength
    omega
  | cons c₁ cs ih =>
    have hhead : t ∈ edgeTimes P c₀.levels (c₁ :: cs) ↔
        (wakeEdge P c₀.levels c₁.levels = true ∧ c₁.time = t) ∨ t ∈ edgeTimes P c₁.levels cs := by
      rw [edgeTimes]
      split <;> rename_i hedge <;> simp [hedge, eq_comm]
    rw [hhead, ih]
    constructor
    · rintro (hfirst | ⟨pre, post, c, d, hlist, hlater⟩)
      · exact ⟨[], cs, c₀, c₁, rfl, hfirst⟩
      · exact ⟨c₀ :: pre, post, c, d, congrArg (c₀ :: ·) hlist, hlater⟩
    · rintro ⟨pre, post, c, d, hlist, hedge⟩
      cases pre with
      | nil =>
        obtain ⟨rfl, rfl, -⟩ : c₀ = c ∧ c₁ = d ∧ cs = post := by simpa using hlist
        exact .inl hedge
      | cons _ pre => exact .inr ⟨pre, post, c, d, (List.cons.inj hlist).2, hedge⟩

/-- A wake event is an edge on a monitored pin that the entry window does not lose (60_exceptions.md R223). -/
theorem Halt.mem_wakeTimes_iff (P : Params wHist wTime) (h : Halt wTime) (t : Nat) :
    t ∈ h.wakeTimes P ↔
      ∃ pre post c d p, PinChange.mk 0 (tickLevels h.start) :: h.changes = pre ++ c :: d :: post ∧
        p ∈ P.wakePins ∧ inputLevel c.levels p ≠ inputLevel d.levels p ∧
        (h.keepsPending = true ∨ h.begins ≤ d.time) ∧ d.time = t := by
  have hedges := mem_edgeTimes_iff P ⟨0, tickLevels h.start⟩ h.changes t
  simp only [wakeEdge_iff] at hedges
  simp only [Halt.wakeTimes, List.mem_filter, hedges, Bool.or_eq_true, decide_eq_true_iff]
  constructor
  · rintro ⟨⟨pre, post, c, d, hlist, ⟨p, hp, hne⟩, rfl⟩, hkept⟩
    exact ⟨pre, post, c, d, p, hlist, hp, hne, hkept, rfl⟩
  · rintro ⟨pre, post, c, d, p, hlist, hp, hne, hkept, rfl⟩
    exact ⟨⟨pre, post, c, d, hlist, ⟨p, hp, hne⟩, rfl⟩, hkept⟩

theorem Halt.fair_iff (P : Params wHist wTime) (delay : Nat) (h : Halt wTime) :
    h.fair P delay = true ↔ ∀ w ∈ h.wakeTimes P, ∃ e, h.ended = some e ∧ e.tickAt ≤ w + delay := by
  rw [Halt.fair, List.all_eq_true]
  cases h.ended <;> simp

theorem Halt.endsAfterWake_iff (P : Params wHist wTime) {h : Halt wTime} {e : HaltEnd wTime} (he : h.ended = some e) :
    h.endsAfterWake P = true ↔ ∃ w ∈ h.wakeTimes P, w ≤ e.ends := by
  rw [Halt.endsAfterWake, he]
  simp

/-! ### The statements of 43_sequencer.md -/

/-- Settles O40: the successors of a phase are its edges. -/
theorem phaseRulesFollowTheGraph : Obligations.PhaseRulesFollowTheGraph := by
  intro wHist wTime P s
  rw [evaluatePhase_phase]
  exact phaseAfter_mem_successors P s

/-- Settles O42: the tick dispatches POWEROFF2, whose rule is the only one. -/
theorem overrideTickDeEnergises : Obligations.OverrideTickDeEnergises := by
  intro wHist wTime P inp s hlong
  have hdispatch := beforePhases_phase_of_longPress hlong
  obtain ⟨hphase, hen, hsd, htimer, hlast⟩ := tick_of_dispatched_poweroff2 hdispatch
  refine ⟨hphase, hen, hsd, ?_, ?_, ?_, htimer, hlast⟩
  · rw [tick_buttonIgnored, hlong, Bool.true_or]
  · rw [tick_evaluated, hdispatch]
    rfl
  · rw [tick_haltReq, hdispatch]
    rfl

/-- Settles O43: the operations differ from the tick's own steps in the result only, which the next one overwrites. -/
theorem tickIsItsOperations : Obligations.TickIsItsOperations := by
  intro inp s
  obtain ⟨s2, r3, hsampled, hunsampled⟩ := exec_sampleSensors
    (.bit (latchInputs Config.params inp s).tick.bootAsserted) (latchInputs Config.params inp s)
  obtain ⟨r4, hevents⟩ := exec_btnEvents_withResult inp.now r3 (sampleSensors (latchInputs Config.params inp s))
  have hoverride := (exec_seqOverride_withResult _ r4 _).trans
    (congrArg Host.Outcome.next (withResult_beforePhases Config.params inp s))
  have hrun : PhaseRun (beforePhases Config.params inp s)
      (evaluateChain Config.params 3 (beforePhases Config.params inp s)) :=
    phaseRun_evaluateChain nofun (tick_select Config.params inp s)
  refine ⟨_, s2, _, _, _, _, _, exec_ioReadBoot _, hsampled, hunsampled, hevents, hoverride, hrun, rfl, ?_⟩
  rw [tick_eq]
  simp only [tickOutputs, params_enActive, params_sdActive, pinLevel_true]

/-- Settles O44: the dispatched phase alone decides which rules are evaluated. -/
theorem tickEvaluatesOneChain : Obligations.TickEvaluatesOneChain := by
  intro wHist wTime P inp s
  refine ⟨tick_select P inp s, ?_⟩
  rw [tick_evaluated]
  cases hlong : (tick P inp s).tick.longPress with
  | true =>
    rw [beforePhases_phase_of_longPress hlong, if_pos rfl]
    rfl
  | false =>
    rw [beforePhases_phase_of_no_longPress hlong, if_neg Bool.false_ne_true]
    rfl

/-- Settles O47: the two runs end in states that differ in the halt request and the result only. -/
theorem haltEnableLeavesRegisters : Obligations.HaltEnableLeavesRegisters := fun _ _ P b inps s =>
  (SameButHaltReq.runTicks P b inps (.refl s)).sameRegisters

/-- Settles O51: the first tick dispatches POWEROFF2, overridden or not, and the second IDLE0. -/
theorem poweroffReachesIdleInTwoTicks : Obligations.PoweroffReachesIdleInTwoTicks := by
  intro wHist wTime P i j s hphase
  have hdispatch : (beforePhases P i s).phase = .poweroff2 :=
    (beforePhases_phase P i s).elim (fun h => h.1.trans hphase) And.left
  obtain ⟨hidle0, hen, hsd, -⟩ := tick_of_dispatched_poweroff2 hdispatch
  exact ⟨hidle0, hen, hsd, fun hlong =>
    tick_of_dispatched_idle0 ((beforePhases_phase_of_no_longPress hlong).trans hidle0)⟩

/-- Settles O59: the contracts speak of the wake events of a halt, and in IDLE2 the edge query reads `last_state`. -/
theorem wakeEventEndsTheHalt : Obligations.WakeEventEndsTheHalt := by
  intro wHist wTime P
  refine ⟨?_, ?_, ?_, ?_⟩
  · intro h delay pre post c d p hlist hp hne hkept hfair
    exact (h.fair_iff P delay).mp hfair d.time
      ((h.mem_wakeTimes_iff P _).mpr ⟨pre, post, c, d, p, hlist, hp, hne, hkept, rfl⟩)
  · intro h e hcontract he
    obtain ⟨w, hw, hends⟩ := (Halt.endsAfterWake_iff P he).mp hcontract
    obtain ⟨pre, post, c, d, p, hlist, hp, hne, hkept, rfl⟩ := (h.mem_wakeTimes_iff P w).mp hw
    exact ⟨pre, post, c, d, p, hlist, hp, hne, hkept, hends⟩
  · intro inp s hidle2 hlong hshort hlevel
    obtain ⟨hphase, hlatches⟩ := tick_of_idle2 hidle2 hlong
    refine ⟨hphase.trans ?_, hlatches⟩
    rcases hlevel with hlow | hlast
    · simp [hshort, hlow]
    · simp [hshort, hlast]
  · intro inp s hidle2 hlong hstb husb hlast hwaits
    have hhigh : (tick P inp s).state = true := by
      rw [tick_state, beforePhases_state, hstb, if_pos rfl, husb]
    obtain ⟨hphase, -⟩ := tick_of_idle2 hidle2 hlong
    rw [hphase, if_neg hwaits, if_pos (.inr ⟨hhigh, hlast⟩)]

/-- Settles O30: the level sensor alone decides. -/
theorem phaseStart : Obligations.PhaseStart := fun _ => rfl

/-- Settles O31: none of the three rules has a condition. -/
theorem phasesThatOnlyRecord : Obligations.PhasesThatOnlyRecord := fun _ => ⟨rfl, rfl, rfl⟩

/-- Settles O32: the rule at the default threshold. -/
theorem phasePowerwait1 : Obligations.PhasePowerwait1 := by
  intro s
  rw [exec_eq_execAt, execAt, execPhPowerwait1, rulePowerwait1_eq, rulePowerwait1_phase, params_tPowerwait]
  simp only [ofNat_lt_iff (n := 1000) _ (by decide)]

/-- Settles O33: neither rule has a condition. -/
theorem phasesThatWriteEn : Obligations.PhasesThatWriteEn := fun _ => ⟨rfl, rfl⟩

/-- Settles O34: the rule at the default threshold. -/
theorem phaseBootwait1 : Obligations.PhaseBootwait1 := by
  intro s
  rw [exec_eq_execAt, execAt, execPhBootwait1, ruleBootwait1_eq, ruleBootwait1_phase, params_tBootwait]
  simp only [ofNat_lt_iff (n := 30000) _ (by decide)]

/-- Settles O35: the rule reads no parameter. -/
theorem phaseBoot : Obligations.PhaseBoot := fun s =>
  (exec_eq_execAt _ s).trans (execAt_phBoot _ s)

/-- Settles O36: SHUTDOWN0 has no condition, SHUTDOWN1 is its rule at the default threshold. -/
theorem phasesShutdown : Obligations.PhasesShutdown := by
  refine fun s => ⟨rfl, ?_⟩
  rw [exec_eq_execAt, execAt, execPhShutdown1, ruleShutdown1_eq, ruleShutdown1_phase, params_tShutdown]
  simp only [ofNat_lt_iff (n := 30000) _ (by decide)]

/-- Settles O37: POWEROFF0 has no condition, POWEROFF1 is its rule at the default threshold. -/
theorem phasesPoweroff : Obligations.PhasesPoweroff := by
  refine fun s => ⟨rfl, ?_⟩
  rw [exec_eq_execAt, execAt, execPhPoweroff1, rulePoweroff1_eq, rulePoweroff1_phase, params_tPoweroff]
  simp only [ofNat_lt_iff (n := 30000) _ (by decide)]

/-- Settles O38: the rule requests the halt exactly where `HALT_ENABLE` is true. -/
theorem phaseIdle0 : Obligations.PhaseIdle0 := by
  refine fun s => ⟨?_, fun P h => ruleIdle0_of_not_haltEnable h s⟩
  rw [exec_eq_execAt, execAt_phIdle0, params_haltEnable, Bool.true_or]

/-- Settles O39: the rule at the default threshold. -/
theorem phaseIdle2 : Obligations.PhaseIdle2 := by
  intro s
  rw [exec_eq_execAt, execAt, execPhIdle2, ruleIdle2_eq, ruleIdle2_phase, params_tIdle]
  simp only [ofNat_lt_iff (n := 5000) _ (by decide)]

/-- Settles O41: the override with the trap taken and with it not taken. -/
theorem overrideWritesPhaseAndFlag : Obligations.OverrideWritesPhaseAndFlag := by
  intro s
  rw [exec_eq_execAt, exec_eq_execAt]
  exact ⟨execAt_seqOverride _ true s, execAt_seqOverride _ false s⟩

end Sys2Proof.Machine

/-! SUPPORT. The GPIO driver: the halt request writes no register, and the statements of 44_gpio.md. -/

namespace Sys2Proof.Machine

open Sys2Proof

variable {wHist wTime : Nat}

/-! ### The halt request -/

/-- The request is a value of the tick, so raising it writes no register (44_gpio.md R207). -/
theorem requestHalt_sameRegisters (P : Params wHist wTime) (s : State.Of wHist wTime) :
    SameRegisters (requestHalt P s) s := by
  rw [requestHalt_eq]
  exact ⟨rfl, rfl, rfl, rfl, rfl, rfl, rfl, rfl, rfl⟩

/-! ### The statements of 44_gpio.md -/

/-- Settles O27: two reads hand over the raw level, and IO.READ_BOOT compares it with `BOOT_ACTIVE`, low by default. -/
theorem pinReads : Obligations.PinReads := by
  refine fun s => ⟨rfl, rfl, ?_⟩
  rw [exec_ioReadBoot, readBoot_eq, withResult_eq]
  simp only [params_bootActive, beq_false]

/-- Settles O29: the new request is `HALT_ENABLE` or the old request. -/
theorem haltIsARequestOnly : Obligations.HaltIsARequestOnly := by
  refine ⟨fun s => ?_, fun _ _ P s => ⟨requestHalt_sameRegisters P s, fun hoff => ?_, fun hon => ?_⟩⟩
  · rw [exec_eq_execAt, execAt_ioHalt, params_haltEnable, Bool.true_or]
  · rw [requestHalt_eq, hoff, Bool.false_or]
  · rw [requestHalt_eq, hon, Bool.true_or]

end Sys2Proof.Machine

/-! SUPPORT. Exceptions: the statements of 60_exceptions.md. -/

namespace Sys2Proof.Machine

open Sys2Proof

/-- Settles O10: the machine at the defaults is one of the parametric machines, and each of those completes. -/
theorem legalInstructionsComplete : Obligations.LegalInstructionsComplete := by
  intro i s hlegal
  rw [exec_eq_execAt]
  exact execAt_completes Config.params i s hlegal

end Sys2Proof.Machine

/-! SUPPORT. Reset: the button over the first ticks after settled up, ticks from START, from POWERWAIT0 and from IDLE0,
and the statement of 70_reset_and_hazards.md. -/

namespace Sys2Proof.Machine

open Sys2Proof

variable {wHist wTime : Nat}

/-! ### The button over the first samples after settled up -/

/-- All bits but the newest `n` are set, as they are after at most `n` samples from settled up. -/
def UpBefore (n : Nat) (h : History) : Prop := ∀ i < 8, n ≤ i → h.getLsbD i = true

theorem upBefore_histReset : UpBefore 0 Config.params.histReset := by unfold UpBefore; decide

/-- The history after step 3 of a tick, which samples with the strobe only (43_sequencer.md R160). -/
def sampledHistory (inp : TickInputs wTime) (h : History wHist) : History wHist :=
  if inp.sampleStb then shiftIn h inp.pinPower else h

theorem tick_history (P : Params wHist wTime) (inp : TickInputs wTime) (s : State.Of wHist wTime) :
    (tick P inp s).history = (queried P (sampledHistory inp s.history)).1 := by
  obtain ⟨hhist, -⟩ := evaluateChain_frame P 3 (beforePhases P inp s)
  refine Eq.trans hhist ?_
  rw [beforePhases_eq]
  rfl

/-- The `long_press` of a tick, from the history that it samples (42_timer_button.md R146). -/
theorem tick_longPress (P : Params wHist wTime) (inp : TickInputs wTime) (s : State.Of wHist wTime) :
    (tick P inp s).tick.longPress =
      (settledDown P (queried P (sampledHistory inp s.history)).1 &&
        !(!(queried P (sampledHistory inp s.history)).2.2 && s.buttonIgnored) &&
        longHold P (inp.now - if (queried P (sampledHistory inp s.history)).2.1 then inp.now else s.timePressed)) := by
  obtain ⟨-, -, -, hlong⟩ := tick_events P inp s
  rw [hlong, beforePhases_eq]
  rfl

theorem UpBefore.sampledHistory {n : Nat} {h : History} (hup : UpBefore n h) (inp : TickInputs 32) :
    UpBefore (n + 1) (sampledHistory inp h) := by
  intro i hi hn
  unfold Machine.sampledHistory
  split
  · rw [shiftIn_getLsbD, if_neg (by omega), hup (i - 1) (by omega) (by omega), Bool.and_true]
    exact decide_eq_true hi
  · exact hup i hi (by omega)

/-- A press takes three low samples (40_debouncer.md R107), and from settled up a release takes more. -/
theorem UpBefore.queried {n : Nat} {h : History} (hup : UpBefore n h) (hn : n ≤ 2) :
    queried Config.params h = (h, false, false) := by
  have hp : matchesPressed Config.params h = false := by
    rw [Bool.eq_false_iff, ne_eq, matchesPressed_default_iff, hup 2 (by omega) hn]
    simp
  have hr : matchesReleased Config.params h = false := by
    rw [Bool.eq_false_iff, ne_eq, matchesReleased_default_iff, hup 7 (by omega) (by omega)]
    simp
  simp [Machine.queried, hp, hr]

theorem UpBefore.tick {n : Nat} {s : State} (hup : UpBefore n s.history) (hn : n ≤ 1) (inp : TickInputs 32) :
    UpBefore (n + 1) (tick Config.params inp s).history := by
  have hsampled := hup.sampledHistory inp
  rwa [tick_history, hsampled.queried (by omega)]

/-- A history whose oldest bit is set is settled down by a press only. -/
theorem matchesPressed_of_settledDown_queried {h : History} (h7 : h.getLsbD 7 = true)
    (hdown : settledDown Config.params (queried Config.params h).1 = true) : matchesPressed Config.params h = true := by
  by_contra hp
  have hr : matchesReleased Config.params h = false := by
    rw [Bool.eq_false_iff, ne_eq, matchesReleased_default_iff, h7]
    simp
  have hzero : h = 0x00#8 := by simpa [queried, hp, hr, settledDown] using hdown
  rw [hzero] at h7
  exact absurd h7 (by decide)

/-- Up to the seventh sample after settled up the history is down only where it is pressed in this tick, and that hold
has just begun (42_timer_button.md R147 b). -/
theorem UpBefore.tick_longPress {n : Nat} {s : State} (hup : UpBefore n s.history) (hn : n ≤ 6)
    (inp : TickInputs 32) : (Machine.tick Config.params inp s).tick.longPress = false := by
  have h7 := hup.sampledHistory inp 7 (by omega) (by omega)
  rw [← Bool.not_eq_true, Machine.tick_longPress]
  simp only [Bool.and_eq_true]
  rintro ⟨⟨hdown, -⟩, hhold⟩
  have hpress : (Machine.queried Config.params (Machine.sampledHistory inp s.history)).2.1 = true :=
    matchesPressed_of_settledDown_queried h7 hdown
  rw [hpress, if_pos rfl, sub_self, longHold_zero (by decide)] at hhold
  exact Bool.false_ne_true hhold

/-! ### Ticks from START, from POWERWAIT0 and from IDLE0 -/

/-- START chooses by the level sensor and queries no edge (43_sequencer.md R165). -/
theorem tick_of_start {P : Params wHist wTime} {inp : TickInputs wTime} {s : State.Of wHist wTime}
    (h : s.phase = .start) (hlong : (tick P inp s).tick.longPress = false) :
    (tick P inp s).phase = (if (tick P inp s).state then .powerwait0 else .poweroff2) ∧
    (tick P inp s).lastState = s.lastState := by
  have hdispatch := (beforePhases_phase_of_no_longPress hlong).trans h
  obtain ⟨hlast, -⟩ := beforePhases_frame P inp s
  obtain ⟨r, htick⟩ := tick_of_not_chains (hdispatch ▸ rfl : chains (beforePhases P inp s).phase = false)
  rw [tick_state, htick, ← hlast]
  simp [withResult_eq, hdispatch, phaseAfter, queriesEdge]

/-- POWERWAIT0 records the timer and goes on (43_sequencer.md R166). -/
theorem tick_of_powerwait0 {P : Params wHist wTime} {inp : TickInputs wTime} {s : State.Of wHist wTime}
    (h : s.phase = .powerwait0) (hlong : (tick P inp s).tick.longPress = false) :
    (tick P inp s).phase = .powerwait1 ∧ (tick P inp s).phaseTimer = inp.now := by
  have hdispatch := (beforePhases_phase_of_no_longPress hlong).trans h
  obtain ⟨-, -, -, -, -, hinputs, -⟩ := beforePhases_frame P inp s
  obtain ⟨r, htick⟩ := tick_of_not_chains (hdispatch ▸ rfl : chains (beforePhases P inp s).phase = false)
  rw [htick]
  simp [withResult_eq, hdispatch, phaseAfter, recordsTimer, hinputs]

/-- A tick from IDLE0 requests the halt and records the timer; with `last_state` low a high level sensor is a rise,
which IDLE2 does not let pass (43_sequencer.md R177 to R179). -/
theorem tick_of_idle0 {P : Params wHist wTime} {inp : TickInputs wTime} {s : State.Of wHist wTime}
    (h : s.phase = .idle0) (hlow : s.lastState = false) (hlong : (tick P inp s).tick.longPress = false) :
    (tick P inp s).tick.haltReq = P.haltEnable ∧ (tick P inp s).phaseTimer = inp.now ∧
    (tick P inp s).phase = if (tick P inp s).state = true then .poweron else .idle2 := by
  have hdispatch := (beforePhases_phase_of_no_longPress hlong).trans h
  obtain ⟨hlast, -, -, -, -, hinputs, -⟩ := beforePhases_frame P inp s
  rw [hlow] at hlast
  have hchain : evaluateChain P 3 (beforePhases P inp s) =
      evaluatePhase P (evaluatePhase P (evaluatePhase P (beforePhases P inp s))) := by
    rw [evaluateChain_three, hdispatch]
  refine ⟨?_, ?_, ?_⟩
  · rw [tick_haltReq, hdispatch]
    exact Bool.or_false _
  · rw [tick_eq, hchain]
    simp [hdispatch, phaseAfter, recordsTimer, hinputs]
  · rw [tick_state, tick_eq, hchain, evaluatePhase_phase, phaseAfter_of_idle2 P (by simp [hdispatch, phaseAfter])]
    simp [hdispatch, phaseAfter, recordsTimer, queriesEdge, hlast, hinputs, or_iff_right_of_imp And.right]

/-! ### The statement of 70_reset_and_hazards.md -/

/-- Settles O52: three ticks are too few for a `long_press`, so each one dispatches the phase that the one before it
left, and none of them before IDLE2 consumes an edge. -/
theorem firstTicksAfterReset : Obligations.FirstTicksAfterReset := by
  intro i j k
  rw [State.reset_eq]
  have hup : UpBefore 0 (resetAt Config.params).history := upBefore_histReset
  have hup1 := hup.tick (by omega) i
  have hup2 := hup1.tick (by omega) j
  obtain ⟨hphase, hlast⟩ := tick_of_start rfl (hup.tick_longPress (by omega) i)
  rw [tick_state, beforePhases_state] at hphase
  refine ⟨?_, ?_⟩
  · rintro ⟨hstb, husb⟩
    have hwait : (tick Config.params i (resetAt Config.params)).phase = .powerwait0 := by
      rw [hphase, hstb, husb]
      rfl
    exact ⟨hwait, tick_of_powerwait0 hwait (hup1.tick_longPress (by omega) j)⟩
  · intro hlow
    have hoff : (tick Config.params i (resetAt Config.params)).phase = .poweroff2 := by
      rcases hlow with hstb | husb
      · rw [hphase, hstb]
        rfl
      · rw [hphase, husb, resetAt_state, ite_self]
        rfl
    obtain ⟨hidle0, hen, hsd, -, hlast2⟩ := tick_of_dispatched_poweroff2
      ((beforePhases_phase_of_no_longPress (hup1.tick_longPress (by omega) j)).trans hoff)
    exact ⟨hoff, hidle0, hen, hsd,
      tick_of_idle0 hidle0 (hlast2.trans hlast) (hup2.tick_longPress (by omega) k)⟩

end Sys2Proof.Machine
